-- ==== Sys2Proof/Word.lean ====
section
/-!
DEFINITION. The word types of the FJT-4832: octets, 24-bit samples and 32-bit frame numbers
(spec 00_scope 6.3, 6.4, 6.7).
-/

namespace Sys2Proof

/-- One octet of a frame or of a message (00_scope 6.7). -/
abbrev Byte := BitVec 8

/-- One audio sample, a signed 24-bit integer held in two's complement (00_scope 6.3). -/
abbrev Sample := BitVec 24

/-- A frame or computation number; numbers wrap modulo 2^32 (00_scope 6.4). -/
abbrev FrameNo := BitVec 32

end Sys2Proof
end

