-- ==== Sys2Proof/Syntax.lean ====
section
/-!
DEFINITION. The commands of the block: one constructor of `Instr` per row of spec/opcode_table.json.
-/

namespace Sys2Proof

/-- The two chain ports (R1): Port U faces the leader, Port D faces away from it. -/
inductive Port where
  | U
  | D
  deriving DecidableEq, Repr

/-- A lane message that completes at the moment a command row is taken (R160): its source, its tag,
its broadcast mark (destination 255) and its parameter octets. Its kind is the row's. -/
structure LaneMessage where
  source : Fin 16
  tag : Byte
  broadcast : Bool
  params : List Byte
  deriving DecidableEq, Repr

/-- How the Command Unit comes to a lane command (R161, R162; log 3).
`queued`: it takes the oldest entry of the command queue, when that entry is of the row's kind.
`arriving m`: message `m` completes now and is offered to the command queue; the Command Unit takes it
at once when it stands at the head and may be taken, and else it waits in the queue. -/
inductive Taking where
  | queued
  | arriving (m : LaneMessage)
  deriving DecidableEq, Repr

/-- The rows of spec/opcode_table.json. `octets` are the octets of a received frame, without the sync
pattern (R168). `holdPulled` says that something outside the part pulls HOLD_N low (log 5). -/
inductive Instr where
  | powerOnReset (lead : Bool) (address : Fin 16)
  | lineActivityAppears (port : Port)
  | lineActivityLost (port : Port)
  | frameOriginate (holdPulled : Bool)
  | outboundFrameReceive (octets : List Byte) (holdPulled : Bool)
  | syncMissingPeriod (port : Port) (holdPulled : Bool)
  | returnFrameReceive (octets : List Byte)
  | discardMarkExpire
  | coreShaped (core : Fin 4)
  | checkPass
  | checkFail
  | cueFire (k : FrameNo)
  | gateHangExpire (pickup : Fin 48)
  | crossfadeEnd
  | quietHoldExpire (feed : Fin 32)
  | recoveryStep (feed : Fin 32)
  | badKindCommand (kind : Byte) (t : Taking)
  | identify (t : Taking)
  | nodeReset (t : Taking)
  | quiet (t : Taking)
  | wake (t : Taking)
  | eventsRead (t : Taking)
  | eventsClear (t : Taking)
  | eventsMask (t : Taking)
  | chainRead (t : Taking)
  | chainSet (t : Taking)
  | patternSet (t : Taking)
  | patternRead (t : Taking)
  | pickupSet (t : Taking)
  | pickupRead (t : Taking)
  | feedSet (t : Taking)
  | feedRead (t : Taking)
  | groupSet (t : Taking)
  | groupRead (t : Taking)
  | coreShape (t : Taking)
  | coreRead (t : Taking)
  | sceneHead (t : Taking)
  | tapWrite (t : Taking)
  | tapRead (t : Taking)
  | sceneClear (t : Taking)
  | sceneCheck (t : Taking)
  | sceneRead (t : Taking)
  | cue (t : Taking)
  | cueCancel (t : Taking)
  | cueRead (t : Taking)
  | guardSet (t : Taking)
  | guardRead (t : Taking)
  | hold (t : Taking)
  | resume (t : Taking)
  | powerOnResetHeld
  deriving DecidableEq, Repr

end Sys2Proof
end

