-- ==== Sys2Proof/Decode.lean ====
section
/-!
DEFINITION. The command a word of spec/opcode_table.json spells. The table gives bits to none of its 50
rows ("fields": [] and no "fixed" for each), so no word spells a command.
-/

namespace Sys2Proof

/-- The command that the `nbits`-bit word `w` spells by the table's bits: none, for every word. -/
def decodeTableWord (_nbits _w : Nat) : Option Instr := none

end Sys2Proof
end

