-- ==== Sys2Proof/Machine/Gain.lean ====
section
/-!
DEFINITION. The attenuation scale (R20 to R22), rounding and saturation (00_scope 6.2), the absorption of a
core line (R87 to R89) and the crossfade interpolation (R70, R93). All arithmetic is exact.
-/

namespace Sys2Proof.Machine

/-- R22: the coarse table, `C[i] = round(2^23 * 2^(-i/64))`. -/
def coarseTable : List Nat :=
  [8388608, 8298246, 8208857, 8120432, 8032959, 7946428, 7860829, 7776152,
   7692387, 7609525, 7527555, 7446469, 7366255, 7286906, 7208412, 7130763] ++
  [7053950, 6977965, 6902799, 6828442, 6754886, 6682122, 6610143, 6538938,
   6468501, 6398822, 6329894, 6261709, 6194258, 6127533, 6061528, 5996233] ++
  [5931642, 5867746, 5804539, 5742012, 5680159, 5618973, 5558445, 5498570,
   5439339, 5380747, 5322786, 5265449, 5208729, 5152621, 5097117, 5042211] ++
  [4987896, 4934167, 4881016, 4828438, 4776426, 4724974, 4674077, 4623728,
   4573921, 4524651, 4475911, 4427697, 4380002, 4332820, 4286147, 4239977]

/-- R89: the fine table, `F[j] = round(2^23 * 2^(-j/4096))`. -/
def fineTable : List Nat :=
  [8388608, 8387189, 8385769, 8384350, 8382932, 8381513, 8380095, 8378677,
   8377259, 8375842, 8374424, 8373007, 8371590, 8370174, 8368758, 8367342] ++
  [8365926, 8364510, 8363095, 8361680, 8360265, 8358850, 8357436, 8356021,
   8354608, 8353194, 8351780, 8350367, 8348954, 8347541, 8346129, 8344717] ++
  [8343305, 8341893, 8340481, 8339070, 8337659, 8336248, 8334838, 8333427,
   8332017, 8330607, 8329198, 8327788, 8326379, 8324970, 8323561, 8322153] ++
  [8320745, 8319337, 8317929, 8316522, 8315114, 8313707, 8312301, 8310894,
   8309488, 8308082, 8306676, 8305270, 8303865, 8302460, 8301055, 8299650]

/-- R22: `C[i]`. -/
def coarse (i : Nat) : Nat := coarseTable.getD i 0

/-- R89: `F[j]`. -/
def fine (j : Nat) : Nat := fineTable.getD j 0

/-- R21, R89: a right shift by `q` that rounds to nearest, an exact half rounded up. -/
def shiftRounded (x q : Nat) : Nat := (x + 2 ^ q / 2) / 2 ^ q

/-- R21: the linear gain of an attenuation code, in units of 2^-23. -/
def gain (a : Nat) : Nat :=
  if a ≥ 1024 then 0 else shiftRounded (coarse (a % 64)) (a / 64)

/-- 00_scope 6.2: clamped to `lo..hi`. -/
def clamp (lo hi x : Nat) : Nat := max lo (min hi x)

/-- R20: a code given in a command is clamped to 0..1024. -/
def clampCode (x : Nat) : Nat := min 1024 x

/-- 00_scope 6.2: the value before saturation does not fit 24 bits (R33, R86). -/
def overflows24 (x : Int) : Bool := decide (x < -8388608) || decide (x > 8388607)

/-- 00_scope 6.2: saturated to 24 bits. -/
def saturate24 (x : Int) : Int := max (-8388608) (min 8388607 x)

/-- The 24-bit sample of a saturated value. -/
def toSample (x : Int) : Sample := BitVec.ofInt 24 (saturate24 x)

/-- R32, R52, R84: a product in units of 2^-23 rounded to nearest, an exact half rounded up. -/
def scale23 (x : Int) : Int := (x + 4194304) / 8388608

/-- R61, R63: a product in units of 2^-15 rounded to nearest, an exact half rounded up. -/
def scale15 (x : Int) : Int := (x + 16384) / 32768

/-- R70, R93: the crossfade from `old` to `new` at weight `w`, rounded to nearest, an exact half rounded up. -/
def crossfade (old new : Int) (w : Nat) : Int :=
  (old * (8192 - (w : Int)) + new * (w : Int) + 4096) / 8192

/-- R93: the same interpolation of absorptions and dampings, which are unsigned. -/
def crossfadeNat (old new w : Nat) : Nat := (old * (8192 - w) + new * w + 4096) / 8192

/-- R25, R50: one step of `rate` from `x` toward `goal`; a rate of 0 reaches the goal at once. -/
def ramp (x goal rate : Nat) : Nat :=
  if rate = 0 then goal
  else if x > goal then max goal (x - rate)
  else min goal (x + rate)

/-- R87: the decay time a core uses. -/
def settleDecay (t : Nat) : Nat := clamp 100 12000 t

/-- R88: the attenuation per pass of a line of length `l`, in 1/4096ths of a halving. -/
def passLoss (l t : Nat) : Nat :=
  max 1 ((l * 870824 + settleDecay t * 512) / (settleDecay t * 1024))

/-- R89: the absorption for an attenuation per pass. -/
def absorptionOfLoss (u : Nat) : Nat :=
  let r := u % 4096
  shiftRounded ((coarse (r / 64) * fine (r % 64) + 4194304) / 8388608) (u / 4096)

/-- R87 to R89: the absorption of a line of length `l` for a header's decay time `t`. -/
def absorption (l t : Nat) : Nat := absorptionOfLoss (passLoss l t)

/-- R188: a saturating counter with greatest value `top` raised by `n`. -/
def countUp (top c n : Nat) : Nat := min top (c + n)

end Sys2Proof.Machine
end

