-- ==== Sys2Proof/Machine/Bank.lean ====
section
/-!
DEFINITION. `Bank n α`: exactly `n` like things (48 pickups, 32 feeds, 16 scenes ...), as plain data that
the kernel can evaluate. The length is carried with the data once, so no later proof shows it again.
-/

namespace Sys2Proof.Machine

structure Bank (n : Nat) (α : Type) where
  items : List α
  size : items.length = n
  deriving DecidableEq, Repr

variable {n : Nat} {α β : Type}

/-- The `i`-th thing. -/
def Bank.get (b : Bank n α) (i : Fin n) : α :=
  b.items.get (Fin.cast b.size.symm i)

/-- The bank with its `i`-th thing replaced. -/
def Bank.set (b : Bank n α) (i : Fin n) (a : α) : Bank n α :=
  ⟨b.items.set i.val a, by rw [List.length_set, b.size]⟩

/-- The bank of `n` copies. -/
def Bank.fill (n : Nat) (a : α) : Bank n α :=
  ⟨List.replicate n a, List.length_replicate⟩

/-- The bank whose `i`-th thing is `f i`. -/
def Bank.ofFn (f : Fin n → α) : Bank n α :=
  ⟨List.ofFn f, List.length_ofFn⟩

/-- The bank with `f` applied to each thing. -/
def Bank.map (f : α → β) (b : Bank n α) : Bank n β :=
  ⟨b.items.map f, by rw [List.length_map, b.size]⟩

/-- The bank with the `i`-th thing replaced by `f` of it. -/
def Bank.modify (b : Bank n α) (i : Fin n) (f : α → α) : Bank n α :=
  b.set i (f (b.get i))

/-- `f` applied to every thing and its number. -/
def Bank.mapIdx (f : Fin n → α → β) (b : Bank n α) : Bank n β :=
  Bank.ofFn fun i => f i (b.get i)

/-- Whether some thing of the bank has property `p`. -/
def Bank.any (b : Bank n α) (p : α → Bool) : Bool :=
  b.items.any p

/-- How many things of the bank have property `p`. -/
def Bank.count (b : Bank n α) (p : α → Bool) : Nat :=
  b.items.countP p

end Sys2Proof.Machine
end

