-- ==== Sys2Proof/Machine/SampleMem.lean ====
section
/-!
DEFINITION. A RAM of 24-bit samples (Delay Memory R52, R53; a core's line memory R75), held as a list of
(position, sample) in one canonical form: positions strictly rising, no sample 0. An unlisted position
reads 0, the content after a clear (R54, R55, R94, R95).
-/

namespace Sys2Proof.Machine

abbrev SampleMem := List (Nat × Sample)

/-- What an unlisted position reads as (R55, R95: every position 0 after reset and after a clear). -/
def SampleMem.unlisted : Sample := 0

/-- The sample at position `p`. -/
def SampleMem.read : SampleMem → Nat → Sample
  | [], _ => SampleMem.unlisted
  | (q, v) :: rest, p => if q = p then v else SampleMem.read rest p

/-- Position `p` replaced by `v`; writing what an unlisted position reads as removes the entry. -/
def SampleMem.write : SampleMem → Nat → Sample → SampleMem
  | [], p, v => if v = SampleMem.unlisted then [] else [(p, v)]
  | (q, u) :: rest, p, v =>
    if q < p then (q, u) :: SampleMem.write rest p v
    else if q = p then (if v = SampleMem.unlisted then rest else (p, v) :: rest)
    else if v = SampleMem.unlisted then (q, u) :: rest
    else (p, v) :: (q, u) :: rest

/-- R80: positions `lo` to `hi - 1` set to 0. -/
def SampleMem.clearRange (m : SampleMem) (lo hi : Nat) : SampleMem :=
  m.filter fun c => !(decide (lo ≤ c.1) && decide (c.1 < hi))

/-- The canonical form, entries from position `lo` upward. -/
def SampleMem.wfFrom : Nat → SampleMem → Bool
  | _, [] => true
  | lo, (p, v) :: rest => decide (lo ≤ p) && (v != SampleMem.unlisted) && SampleMem.wfFrom (p + 1) rest

/-- The canonical form of a sample memory. -/
def SampleMem.wf (m : SampleMem) : Bool := SampleMem.wfFrom 0 m

end Sys2Proof.Machine
end

