-- ==== Sys2Proof/Machine/Records.lean ====
section
/-!
DEFINITION. The records of the fourteen blocks (00_scope section 3) and the value each takes at reset.
-/

namespace Sys2Proof.Machine

/-! ## Pins -/

/-- The pins that are not kept elsewhere: RST_N is low (R154); something outside the part pulls HOLD_N low
(R146). LEAD and ADDR3..ADDR0 are kept as read, in `Chain` (R1). -/
structure Pins where
  rstLow : Bool
  holdPulled : Bool
  deriving DecidableEq, Repr

/-! ## Chain Interface (chapter 1) -/

/-- R5: the states of a receive side. -/
inductive PortState where
  | down
  | seeking
  | locked
  deriving DecidableEq, Repr

/-- R5: a receive side's state, good run and bad run. -/
structure PortRx where
  state : PortState
  good : Nat
  bad : Nat
  deriving DecidableEq, Repr

/-- R11: the turnaround states END, THROUGH and DETACHED. -/
inductive Turnaround where
  | chainEnd
  | through
  | detached
  deriving DecidableEq, Repr

/-- The Chain Interface (R19). `switchOpen` is the model's own: the next outbound frame handled still
settles the switch number t (R13, log 10). `syncU` and `syncD` say that a sync pattern has been found on the
port's line since line activity last appeared there, so that its frame periods have begun (R4, log 32). `txU`
and `txD` are what the transmit sides sent in their latest frame period (log 21). -/
structure Chain where
  leader : Bool
  address : Fin 16
  portU : PortRx
  portD : PortRx
  lockG : Nat
  lockB : Nat
  counter : FrameNo
  expected : FrameNo
  turnaround : Turnaround
  discard : Bool
  switchNo : FrameNo
  switchOpen : Bool
  sinceSwitch : Nat
  syncU : Bool
  syncD : Bool
  txU : Option (List Byte)
  txD : Option (List Byte)
  deriving DecidableEq, Repr

/-- R19: a receive side after power-on reset, and after loss of line activity (R5). -/
def PortRx.down : PortRx := ⟨.down, 0, 0⟩

/-- R19: the Chain Interface after power-on reset. -/
def Chain.powerOn (lead : Bool) (address : Fin 16) : Chain where
  leader := lead
  address := address
  portU := PortRx.down
  portD := PortRx.down
  lockG := 32
  lockB := 8
  counter := 0
  expected := 0
  turnaround := if lead then .chainEnd else .detached
  discard := false
  switchNo := 0
  switchOpen := false
  sinceSwitch := 0
  syncU := false
  syncD := false
  txU := none
  txD := none

/-! ## Level Unit (chapter 2) -/

/-- R24: the phases of a ramp group. -/
inductive Phase where
  | steady
  | rising
  | falling
  deriving DecidableEq, Repr

/-- R24: a ramp group. -/
structure Group where
  current : Nat
  target : Nat
  rate : Nat
  phase : Phase
  deriving DecidableEq, Repr

/-- R28: a feed record; `none` is the slot NONE. -/
structure Feed where
  slot : Option (Fin 128)
  trim : Nat
  trimTarget : Nat
  deriving DecidableEq, Repr

/-- The Level Unit (R37). -/
structure Level where
  groups : Bank 32 Group
  feeds : Bank 32 Feed
  hold : Nat
  deriving DecidableEq, Repr

/-- R24: a ramp group after reset. -/
def Group.reset : Group := ⟨0, 0, 0, .steady⟩

/-- R28: a feed after reset. -/
def Feed.reset : Feed := ⟨none, 1024, 1024⟩

/-- R37: the Level Unit after reset. -/
def Level.reset : Level := ⟨Bank.fill 32 Group.reset, Bank.fill 32 Feed.reset, 1024⟩

/-! ## Pickup Unit (chapter 3) -/

/-- R48: the gate states. -/
inductive GateState where
  | opened
  | hanging
  | closed
  deriving DecidableEq, Repr

/-- R38: a pickup's record and its working items. `tickPeak` is the peak taken at the latest tick (R47). -/
structure Pickup where
  slot : Option (Fin 128)
  enable : Bool
  openCode : Nat
  closeCode : Nat
  hang : Nat
  floorCode : Nat
  attack : Nat
  release : Nat
  gate : GateState
  level : Nat
  hangCount : Nat
  peak : Nat
  tickPeak : Nat
  held : Sample
  deriving DecidableEq, Repr

/-- R41: an entry of the pickup frame buffer. -/
structure BufferEntry where
  tag : FrameNo
  samples : Bank 48 Sample
  valid : Bool
  deriving DecidableEq, Repr

/-- R38, R55: a pickup after reset. -/
def Pickup.reset : Pickup where
  slot := none
  enable := false
  openCode := 512
  closeCode := 576
  hang := 100
  floorCode := 1024
  attack := 64
  release := 4
  gate := .opened
  level := 0
  hangCount := 0
  peak := 0
  tickPeak := 0
  held := 0

/-- R41, R55: a buffer entry after reset and after a clear. -/
def BufferEntry.cleared : BufferEntry := ⟨0, Bank.fill 48 0, false⟩

/-! ## Tap Engine (chapter 4) -/

/-- The Tap Engine: the effective gain sets of the running scenes (R60) and the running feed peaks (R73). -/
structure TapEngine where
  gainActive : Option (List Int)
  gainOutgoing : Option (List Int)
  peaks : Bank 32 Nat
  deriving DecidableEq, Repr

/-- R74: the Tap Engine after reset. -/
def TapEngine.reset : TapEngine := ⟨none, none, Bank.fill 32 0⟩

/-! ## Recirculation Cores (chapter 5) -/

/-- R75: the states of a core. -/
inductive CoreState where
  | unshaped
  | shaping
  | shaped
  deriving DecidableEq, Repr

/-- R75: a set of targets of a core: the absorption of each line and one damping. -/
structure Targets where
  absorption : Bank 8 Nat
  damping : Nat
  deriving DecidableEq, Repr

/-- R75: a core. `inUse` are the values of its most recent computation (R75, R93). -/
structure RevCore where
  state : CoreState
  lengths : Bank 8 Nat
  clearCount : Nat
  mem : SampleMem
  index : Bank 8 Nat
  damp : Bank 8 Sample
  active : Targets
  outgoing : Targets
  armed : Option Targets
  inUse : Targets
  deriving DecidableEq, Repr

/-- R92, R95: targets of absorption 0 and damping 0. -/
def Targets.zero : Targets := ⟨Bank.fill 8 0, 0⟩

/-- R95: a core after reset. `inUse` is 0 by DESIGN CHOICE (log 15). -/
def RevCore.reset : RevCore where
  state := .unshaped
  lengths := Bank.fill 8 64
  clearCount := 0
  mem := []
  index := Bank.fill 8 0
  damp := Bank.fill 8 0
  active := Targets.zero
  outgoing := Targets.zero
  armed := none
  inUse := Targets.zero

/-! ## Scene Store and Check Unit (chapter 6) -/

/-- R99: the scene states. -/
inductive SceneState where
  | empty
  | editing
  | checking
  | ready
  | cued
  | active
  | outgoing
  deriving DecidableEq, Repr

/-- R56: a tap record as stored (R57). -/
structure Tap where
  source : Byte
  delay : Nat
  tapGain : BitVec 16
  dest : Byte
  group : Byte
  depth : Nat
  deriving DecidableEq, Repr

/-- R97: a scene header as stored. -/
structure Header where
  fadeCode : Nat
  wander : Nat
  decay : Bank 4 Nat
  damping : Bank 4 Nat
  deriving DecidableEq, Repr

/-- R109: the reasons a tap fails its check. -/
inductive CheckReason where
  | badSource
  | badDestination
  | badGroup
  | coreLoop
  | coreUnshaped
  deriving DecidableEq, Repr

/-- R96: the last check result. -/
inductive CheckResult where
  | none
  | passed
  | failed (tap : Nat) (reason : CheckReason)
  deriving DecidableEq, Repr

/-- R96: a scene record; the tap count is the length of the tap list (R98). -/
structure Scene where
  state : SceneState
  header : Header
  taps : List Tap
  result : CheckResult
  deriving DecidableEq, Repr

/-- What a RESERVED reply entry keeps of its command: the source, the tag and the LOST_BEFORE mark (R162). -/
structure Ticket where
  source : Fin 16
  tag : Byte
  kind : Byte
  lostBefore : Bool
  deriving DecidableEq, Repr

/-- R107, R108: a running check; `replyTo` is its RESERVED reply entry, none for a broadcast check. -/
structure CheckRun where
  scene : Fin 16
  next : Nat
  replyTo : Option Ticket
  deriving DecidableEq, Repr

/-- R97: the default header. -/
def Header.default : Header := ⟨6, 0, Bank.fill 4 0, Bank.fill 4 0⟩

/-- R96, R114: a scene after reset. -/
def Scene.reset : Scene := ⟨.empty, Header.default, [], .none⟩

/-! ## Cue Unit (chapter 7) -/

/-- R115: the cue states. -/
inductive CueState where
  | idle
  | armed
  | fading
  | fadingArmed
  deriving DecidableEq, Repr

/-- R115: the Cue Unit. `firstTest` is the model's own: the next due test is the first after a crossfade
ended (R122, R126; log 24, log 33). -/
structure CueUnit where
  state : CueState
  target : Option (Fin 16)
  frameX : FrameNo
  immediate : Bool
  weight : Nat
  stepSize : Nat
  silence : Bool
  deferred : Bool
  firstTest : Bool
  wanderActive : Option Nat
  wanderOutgoing : Option Nat
  deriving DecidableEq, Repr

/-- R115: the Cue Unit after reset. -/
def CueUnit.reset : CueUnit where
  state := .idle
  target := none
  frameX := 0
  immediate := false
  weight := 0
  stepSize := 0
  silence := false
  deferred := false
  firstTest := false
  wanderActive := none
  wanderOutgoing := none

/-! ## Howl Guard (chapter 8) -/

/-- R132: the guard states. -/
inductive GuardState where
  | watch
  | cut
  | recover
  deriving DecidableEq, Repr

/-- R132: a feed's guard record. -/
structure Guard where
  enable : Bool
  floorCode : Nat
  rise : Nat
  cutStep : Nat
  limit : Nat
  quietHold : Nat
  interval : Nat
  escalate : Bool
  state : GuardState
  trim : Nat
  run : Nat
  prevPeak : Nat
  settle : Nat
  timer : Nat
  count : Nat
  deriving DecidableEq, Repr

/-- R132, R144: a guard record after reset. -/
def Guard.reset : Guard where
  enable := false
  floorCode := 512
  rise := 6
  cutStep := 32
  limit := 192
  quietHold := 2000
  interval := 20
  escalate := false
  state := .watch
  trim := 0
  run := 0
  prevPeak := 0
  settle := 0
  timer := 0
  count := 0

/-! ## Hold Controller (chapter 9) -/

/-- R147: the hold states. -/
inductive HoldState where
  | running
  | holding
  | held
  | resuming
  deriving DecidableEq, Repr

/-- R150: the node conditions. -/
inductive Condition where
  | running
  | isolated
  | quiet
  deriving DecidableEq, Repr

/-- R145: the Hold Controller: the hold source set (one mark per source), the hold state, the node condition. -/
structure Hold where
  line : Bool
  message : Bool
  guard : Bool
  start : Bool
  link : Bool
  state : HoldState
  condition : Condition
  deriving DecidableEq, Repr

/-- R154, R155: the Hold Controller after a reset of a part that has, or has not, its upstream side. -/
def Hold.reset (upstream : Bool) : Hold where
  line := false
  message := false
  guard := false
  start := true
  link := !upstream
  state := .held
  condition := if upstream then .running else .isolated

/-! ## Lane Controller and Command Unit (chapter 10) -/

/-- R158: a message in assembly. -/
structure Assembly where
  octets : List Byte
  segments : Nat
  declared : Nat
  broadcast : Bool
  expected : FrameNo
  deriving DecidableEq, Repr

/-- R156: an entry of the read record that holds a frame: READ when `read`, else LOST. -/
structure ReadMark where
  frame : FrameNo
  read : Bool
  deriving DecidableEq, Repr

/-- R161: a command queue entry. -/
structure Entry where
  source : Fin 16
  kind : Byte
  tag : Byte
  params : List Byte
  broadcast : Bool
  lostBefore : Bool
  deriving DecidableEq, Repr

/-- R177: a reply: destination, kind, tag and parameters (the status octet first). -/
structure Reply where
  dest : Fin 16
  kind : Byte
  tag : Byte
  params : List Byte
  deriving DecidableEq, Repr

/-- The Lane Controller. A context `none` is IDLE. `ready` are the READY reply entries, oldest first; the
RESERVED entry between steps is the running check's (`CheckRun.replyTo`); the rest of four are FREE (R163).
`sent` counts the segments of the oldest READY reply already sent; 0 when no transmission is in progress. -/
structure Lane where
  contexts : Bank 16 (Option Assembly)
  record : Bank 16 (Option ReadMark)
  queue : List Entry
  ready : List Reply
  sent : Nat
  lossPending : Bool
  backpressure : Bool
  deriving DecidableEq, Repr

/-- R156, R158, R161, R163: the Lane Controller after reset. -/
def Lane.reset : Lane where
  contexts := Bank.fill 16 none
  record := Bank.fill 16 none
  queue := []
  ready := []
  sent := 0
  lossPending := false
  backpressure := false

/-! ## Event Unit (chapter 12) -/

/-- R186: the events. -/
inductive Event where
  | chainU
  | chainD
  | topology
  | badFrame
  | frameJump
  | lateReturn
  | addressClash
  | laneBroken
  | messageBad
  | queueOverrun
  | commandRefused
  | feedClip
  | coreClip
  | howlCut
  | howlLimit
  | cueFired
  | cueLate
  | cueReplaced
  | cueDeferred
  | holdEntered
  | patternSyncLost
  | patternAlarm
  | restarted
  deriving DecidableEq, Repr

/-- R186: the bit of an event in the event words. -/
def Event.bit : Event → Nat
  | .chainU => 0
  | .chainD => 1
  | .topology => 2
  | .badFrame => 3
  | .frameJump => 4
  | .lateReturn => 5
  | .addressClash => 6
  | .laneBroken => 7
  | .messageBad => 8
  | .queueOverrun => 9
  | .commandRefused => 10
  | .feedClip => 11
  | .coreClip => 12
  | .howlCut => 13
  | .howlLimit => 14
  | .cueFired => 15
  | .cueLate => 16
  | .cueReplaced => 17
  | .cueDeferred => 18
  | .holdEntered => 19
  | .patternSyncLost => 20
  | .patternAlarm => 21
  | .restarted => 22

/-- R186: the word with one event's bit set. -/
def Event.word (e : Event) : BitVec 23 := BitVec.ofNat 23 (2 ^ e.bit)

/-- R186, R188: the Event Unit: latches, masks and counters. -/
structure Events where
  latch : BitVec 23
  mask : BitVec 23
  badU : Nat
  badD : Nat
  broken : Nat
  badMessages : Nat
  dropped : Nat
  concealed : Nat
  feedClips : Nat
  coreClips : Nat
  patWords : Nat
  patBits : Nat
  deriving DecidableEq, Repr

/-- R189: the Event Unit after reset: RESTARTED alone is latched. -/
def Events.reset : Events := ⟨Event.restarted.word, 0, 0, 0, 0, 0, 0, 0, 0, 0, 0, 0⟩

/-! ## Slot Pattern Unit (chapter 12) -/

/-- R190, R191: the Slot Pattern Unit. `seedNext` is the model's own: the next word is the first after the
checker was turned on or its slot changed (R191, log 25). -/
structure Pattern where
  genOn : Bool
  genSlot : Fin 128
  history : BitVec 23
  chkOn : Bool
  chkSlot : Fin 128
  inSync : Bool
  seedNext : Bool
  predictor : BitVec 23
  lastFrame : FrameNo
  goodRun : Nat
  mismatchRun : Nat
  threshold : Nat
  deriving DecidableEq, Repr

/-- R192: the Slot Pattern Unit after reset. -/
def Pattern.reset : Pattern where
  genOn := false
  genSlot := 0
  history := BitVec.allOnes 23
  chkOn := false
  chkSlot := 0
  inSync := false
  seedNext := false
  predictor := 0
  lastFrame := 0
  goodRun := 0
  mismatchRun := 0
  threshold := 255

end Sys2Proof.Machine
end

