-- ==== Sys2Proof/Machine/CoreUnit.lean ====
section
/-!
DEFINITION. A recirculation core (chapter 5): shape, clear, targets, and one computation of its eight lines.
-/

namespace Sys2Proof.Machine

/-- R75: the first position of line `l`; the lines stand one after another in line order. -/
def RevCore.lineBase (c : RevCore) (l : Fin 8) : Nat := (c.lengths.items.take l.val).sum

/-- R83: the position of the oldest sample of line `l`. -/
def RevCore.position (c : RevCore) (l : Fin 8) : Nat := c.lineBase l + c.index.get l

/-- R93: the absorption and damping in use; `w` is the crossfade weight, none when no crossfade runs. -/
def RevCore.formInUse (w : Option Nat) (c : RevCore) : Targets :=
  match w with
  | none => c.active
  | some w =>
    ⟨Bank.ofFn fun l => crossfadeNat (c.outgoing.absorption.get l) (c.active.absorption.get l) w,
      crossfadeNat c.outgoing.damping c.active.damping w⟩

/-- R83: the smoothed sample, from the oldest sample `y`, the damping state `z` and the damping `d`. -/
def smooth (d : Nat) (y z : Int) : Int := y + ((d : Int) * (z - y) + 128) / 256

/-- R83: the smoothed sample of line `l` under targets `t`. -/
def RevCore.smoothed (t : Targets) (c : RevCore) (l : Fin 8) : Int :=
  smooth t.damping (c.mem.read (c.position l)).toInt (c.damp.get l).toInt

/-- R59, R84: the output of line `l` under targets `t`; 0 when the core is not SHAPED. -/
def RevCore.lineOutput (t : Targets) (c : RevCore) (l : Fin 8) : Int :=
  if c.state = .shaped then scale23 ((t.absorption.get l : Int) * c.smoothed t l) else 0

/-- R85: the share subtracted from each line. -/
def RevCore.share (t : Targets) (c : RevCore) : Int :=
  (((List.finRange 8).map (c.lineOutput t)).sum + 2) / 4

/-- R85: the input of line `l`, before saturation. -/
def RevCore.lineInput (t : Targets) (inj : Fin 8 → Int) (c : RevCore) (l : Fin 8) : Int :=
  c.lineOutput t l - c.share t + inj l

/-- R86: every line written and advanced. -/
def RevCore.runLines (t : Targets) (inj : Fin 8 → Int) (c : RevCore) : RevCore :=
  { c with
    mem := (List.finRange 8).foldl
      (fun m l => m.write (c.position l) (toSample (c.lineInput t inj l))) c.mem
    index := Bank.ofFn fun l => if c.index.get l + 1 ≥ c.lengths.get l then 0 else c.index.get l + 1
    damp := Bank.ofFn fun l => toSample (c.smoothed t l)
    inUse := t }

/-- R86: how many lines saturate. -/
def RevCore.clips (t : Targets) (inj : Fin 8 → Int) (c : RevCore) : Nat :=
  ((List.finRange 8).filter fun l => overflows24 (c.lineInput t inj l)).length

/-- R80: one clearing computation of a SHAPING core. -/
def RevCore.clearStep (c : RevCore) : RevCore :=
  { c with
    mem := c.mem.clearRange (2048 * c.clearCount) (2048 * c.clearCount + 2048)
    clearCount := min 8 (c.clearCount + 1)
    state := if c.clearCount + 1 ≥ 8 then .shaped else .shaping }

/-- R80, R82: what a computation does to a core, by its state. -/
def RevCore.compute (w : Option Nat) (inj : Fin 8 → Int) (c : RevCore) : RevCore :=
  match c.state with
  | .unshaped => c
  | .shaping => c.clearStep
  | .shaped => c.runLines (c.formInUse w) inj

/-- R80: the eighth clearing computation of a SHAPING core (the row CORE_SHAPED taken alone, log 4). -/
def RevCore.shapedEvent (c : RevCore) : RevCore :=
  if c.state = .shaping ∧ c.clearCount ≥ 7 then c.clearStep else c

/-- R77: the eight lengths of a CORE_SHAPE, clamped to 64..4,095. -/
def clampLengths (lengths : Fin 8 → Nat) : Bank 8 Nat := Bank.ofFn fun l => clamp 64 4095 (lengths l)

/-- R78: a core that takes a new shape. -/
def RevCore.reshape (lengths : Bank 8 Nat) (c : RevCore) : RevCore :=
  { c with
    lengths := lengths
    state := .shaping
    clearCount := 0
    index := Bank.fill 8 0
    damp := Bank.fill 8 0 }

/-- R91: the targets of a core with line lengths `lengths` for a decay time and a damping. -/
def targetsFor (lengths : Bank 8 Nat) (decay damping : Nat) : Targets :=
  ⟨lengths.map fun l => absorption l decay, damping⟩

/-- R91: the armed targets of core `i` for a scene header. -/
def RevCore.arm (h : Header) (i : Fin 4) (c : RevCore) : RevCore :=
  { c with armed := some (targetsFor c.lengths (h.decay.get i) (h.damping.get i)) }

/-- R91: the armed targets become none. -/
def RevCore.disarm (c : RevCore) : RevCore := { c with armed := none }

/-- R92: the target sets at fire. -/
def RevCore.fire (c : RevCore) : RevCore :=
  { c with outgoing := c.active, active := c.armed.getD Targets.zero, armed := none }

/-- R92: the outgoing targets discarded at the end of a crossfade: 0, as after reset (log 16). -/
def RevCore.endFade (c : RevCore) : RevCore := { c with outgoing := Targets.zero }

/-- R94: line memory and damping states cleared on entry into ISOLATED or QUIET. -/
def RevCore.silence (c : RevCore) : RevCore := { c with mem := [], damp := Bank.fill 8 0 }

end Sys2Proof.Machine
end

