-- ==== Sys2Proof/Machine/CueOps.lean ====
section
/-!
DEFINITION. The Cue Unit (chapter 7), without the other blocks: the due test, the weight, the marks.
-/

namespace Sys2Proof.Machine

/-- R115: a cue is armed. -/
def CueState.hasCue : CueState → Bool
  | .armed => true
  | .fadingArmed => true
  | .idle => false
  | .fading => false

/-- R115: a crossfade is in progress; the FADING flag of the roll-call octet. -/
def CueState.fades : CueState → Bool
  | .fading => true
  | .fadingArmed => true
  | .idle => false
  | .armed => false

/-- R121: the cue is due in computation `k`. -/
def CueUnit.due (k : FrameNo) (c : CueUnit) : Bool :=
  c.immediate || c.frameX == k || decide (2147483648 ≤ (c.frameX - k).toNat)

/-- R117, R118: the Cue Unit once a cue is armed, or replaced, for `target`.
R115: the deferred mark is set when this happens in FADING or FADING_ARMED, and cleared in IDLE or ARMED. -/
def CueUnit.arm (target : Fin 16) (x : FrameNo) (immediate : Bool) (c : CueUnit) : CueUnit :=
  { c with
    state := if c.state.fades then .fadingArmed else .armed
    target := some target
    frameX := x
    immediate := immediate
    deferred := c.state.fades }

/-- R120: the Cue Unit once the armed cue is cancelled. -/
def CueUnit.cancel (c : CueUnit) : CueUnit :=
  { c with
    state := if c.state.fades then .fading else .idle
    target := none
    deferred := false }

/-- R122 steps 2 and 3: the Cue Unit at fire; `code` is the incoming scene's crossfade code and
`silence` says that no scene became OUTGOING. -/
def CueUnit.fire (code : Nat) (silence : Bool) (c : CueUnit) : CueUnit :=
  { c with
    state := .fading
    target := none
    weight := 0
    stepSize := 8192 / 2 ^ code
    silence := silence
    deferred := false
    firstTest := false
    wanderActive := some 0
    wanderOutgoing := if silence then none else c.wanderActive }

/-- R122, R126: the fire is CUE_LATE, CUE_DEFERRED or neither.
DESIGN CHOICE (log 33), unsafe: a deferred cue whose X passes in an ISOLATED stay or a frame jump that begins right after
its crossfade's last tick is CUE_DEFERRED at its first test, as R122 and R126 say, where R130 says CUE_LATE. -/
def CueUnit.fireEvent (k : FrameNo) (c : CueUnit) : Option Event :=
  if c.frameX = k ∨ c.immediate = true then none
  else if c.deferred && c.firstTest then some .cueDeferred
  else some .cueLate

/-- R124: the weight raised by the step at a ramp tick; it does not pass 8192. -/
def CueUnit.raise (c : CueUnit) : CueUnit := { c with weight := min 8192 (c.weight + c.stepSize) }

/-- R125 step 3: the Cue Unit when the crossfade ends. -/
def CueUnit.endFade (c : CueUnit) : CueUnit :=
  { c with
    state := if c.state = .fadingArmed then .armed else .idle
    weight := 8192
    silence := false
    firstTest := c.state == .fadingArmed
    wanderOutgoing := none }

end Sys2Proof.Machine
end

