-- ==== Sys2Proof/Machine/LevelUnit.lean ====
section
/-!
DEFINITION. The Level Unit (chapter 2): ramp groups, feed trims, the hold level and the output stage.
-/

namespace Sys2Proof.Machine

/-- R24, R25: the phase of a group, from its current and target. -/
def phaseOf (current target : Nat) : Phase :=
  if current = target then .steady else if current > target then .rising else .falling

/-- R25: a group at a ramp tick. -/
def Group.tick (g : Group) : Group :=
  { g with
    current := ramp g.current g.target g.rate
    phase := phaseOf (ramp g.current g.target g.rate) g.target }

/-- R26: a group selected by GROUP_SET. -/
def Group.aim (target rate : Nat) (g : Group) : Group :=
  { g with target := target, rate := rate, phase := phaseOf g.current target }

/-- R29: a feed's trim at a ramp tick. -/
def Feed.tick (f : Feed) : Feed := { f with trim := ramp f.trim f.trimTarget 16 }

/-- R35: the hold level at a ramp tick, by whether the hold source set is not empty. -/
def holdLevelTick (held : Bool) (level : Nat) : Nat :=
  if held then min 1024 (level + 64) else level - 16

/-- R23: the Level Unit at a ramp tick. -/
def Level.tick (held : Bool) (l : Level) : Level where
  groups := l.groups.map Group.tick
  feeds := l.feeds.map Feed.tick
  hold := holdLevelTick held l.hold

/-- R31: the feed total. -/
def feedTotal (trim guardTrim holdLevel : Nat) : Nat := min 1024 (trim + guardTrim + holdLevel)

/-- R32: a feed value scaled by the feed total, before saturation. -/
def outputValue (v : Int) (total : Nat) : Int := scale23 (v * (gain total : Int))

/-- R47, R73: the magnitude of a sample; that of -8,388,608 is 8,388,608. -/
def magnitude (x : Sample) : Nat := x.toInt.natAbs

end Sys2Proof.Machine
end

