-- ==== Sys2Proof/Machine/GuardOps.lean ====
section
/-!
DEFINITION. The Howl Guard (chapter 8), one feed at a time.
-/

namespace Sys2Proof.Machine

/-- R141: a feed enabled, in CUT or RECOVER, with its trim at its limit. -/
def Guard.atLimit (g : Guard) : Bool :=
  g.enable && (g.state == .cut || g.state == .recover) && g.trim == g.limit

/-- R136: the settle count at a tick; `moved` says that the feed's trim or the hold level moved.
DESIGN CHOICE (log 30), unsafe: after a return from ISOLATED, with the hold level standing at 1024 under LINK, the
count climbs to 2 within two ticks as R136 says, where R143 says that it does so only after the level is back
at 0. -/
def Guard.settleTick (moved : Bool) (g : Guard) : Nat := if moved then 0 else min 2 (g.settle + 1)

/-- R137: the tick is rising, for tick peak `p`. -/
def Guard.rising (moved : Bool) (p : Nat) (g : Guard) : Bool :=
  decide (p > g.prevPeak + g.prevPeak / 16) && decide (p ≥ gain g.floorCode) && g.settleTick moved == 2

/-- R137: the rise run after the rise test. -/
def Guard.runTick (moved : Bool) (p : Nat) (g : Guard) : Nat :=
  if g.rising moved p then min 64 (g.run + 1) else 0

/-- R138: the feed is cut at this tick. -/
def Guard.cuts (moved : Bool) (p : Nat) (g : Guard) : Bool :=
  g.enable && decide (g.runTick moved p ≥ g.rise)

/-- R141: the feed is cut at this tick and its trim is already at its limit. -/
def Guard.cutsAtLimit (moved : Bool) (p : Nat) (g : Guard) : Bool :=
  g.cuts moved p && decide (g.limit ≤ g.trim)

/-- R138: a cut. -/
def Guard.cut (g : Guard) : Guard :=
  { g with trim := min g.limit (g.trim + g.cutStep), run := 0, state := .cut, timer := g.quietHold }

/-- R140: the trim falls by 1 and the recovery count is loaded; at trim 0 the feed returns to WATCH. -/
def Guard.recoveryStep (g : Guard) : Guard :=
  if g.trim ≤ 1 then { g with trim := 0, state := .watch, count := 0 }
  else { g with trim := g.trim - 1, count := g.interval }

/-- R140: a feed in RECOVER at a tick without a cut. -/
def Guard.recoverTick (g : Guard) : Guard :=
  if g.count ≤ 1 then g.recoveryStep else { g with count := g.count - 1 }

/-- R139: the hold timer has reached 0: RECOVER, and on to WATCH when the trim is 0. -/
def Guard.holdExpired (g : Guard) : Guard :=
  if g.trim = 0 then { g with timer := 0, state := .watch, count := 0 }
  else { g with timer := 0, state := .recover, count := g.interval }

/-- R139: a feed in CUT at a tick without a cut. -/
def Guard.cutTick (g : Guard) : Guard :=
  if g.timer ≤ 1 then g.holdExpired else { g with timer := g.timer - 1 }

/-- R135 step 3: the state moved at a tick without a cut. -/
def Guard.moveState (g : Guard) : Guard :=
  match g.state with
  | .watch => g
  | .cut => g.cutTick
  | .recover => g.recoverTick

/-- R135: one feed's guard at a ramp tick with tick peak `p`; a disabled guard does nothing. -/
def Guard.tick (moved : Bool) (p : Nat) (g : Guard) : Guard :=
  if g.enable then
    let judged := { g with settle := g.settleTick moved, run := g.runTick moved p }
    let acted := if g.cuts moved p then judged.cut else judged.moveState
    { acted with prevPeak := p }
  else g

/-- R133: the clamped parameters of a GUARD_SET. -/
structure GuardParams where
  enable : Bool
  floorCode : Nat
  rise : Nat
  cutStep : Nat
  limit : Nat
  quietHold : Nat
  interval : Nat
  escalate : Bool
  deriving DecidableEq, Repr

/-- R134: the working part kept when the enable stays on: the trim is lowered to a limit below it, and in
RECOVER a trim lowered to 0 makes the state WATCH (the recovery count is kept, log 18). -/
def Guard.limitTo (limit : Nat) (g : Guard) : Guard :=
  if limit < g.trim then
    { g with trim := limit, state := if g.state = .recover ∧ limit = 0 then .watch else g.state }
  else g

/-- R134: the working part started afresh. -/
def Guard.restart (g : Guard) : Guard :=
  { g with state := .watch, trim := 0, run := 0, prevPeak := 0, settle := 0, timer := 0, count := 0 }

/-- R133, R134: a feed's guard record after a GUARD_SET that selects it. -/
def Guard.configure (q : GuardParams) (g : Guard) : Guard :=
  let working :=
    if g.enable && q.enable then g.limitTo q.limit
    else if g.enable || q.enable then g.restart
    else g
  { working with
    enable := q.enable
    floorCode := q.floorCode
    rise := q.rise
    cutStep := q.cutStep
    limit := q.limit
    quietHold := q.quietHold
    interval := q.interval
    escalate := q.escalate }

/-- R143: entry into ISOLATED. -/
def Guard.isolate (g : Guard) : Guard :=
  if g.enable then { g with run := 0, prevPeak := 0, settle := 0 } else g

end Sys2Proof.Machine
end

