-- ==== Sys2Proof/Machine/Operands.lean ====
section
/-!
DEFINITION. The operands of the lane commands: numbers read from parameter octets, numbers written into reply
data, and the codes of R173 and R174.
-/

namespace Sys2Proof.Machine

/-! ## Reading parameters (R167: most significant octet first) -/

/-- The number in octet `i`. -/
def at8 (p : List Byte) (i : Nat) : Nat := (p.getD i 0).toNat

/-- The number in octets `i`, `i + 1`. -/
def at16 (p : List Byte) (i : Nat) : Nat := at8 p i * 256 + at8 p (i + 1)

/-- The 32-bit word in octets `i .. i + 3`. -/
def at32 (p : List Byte) (i : Nat) : BitVec 32 := BitVec.ofNat 32 (at16 p i * 65536 + at16 p (i + 2))

/-- An index parameter below `n`, or none when out of range (R176 step 4). -/
def index? (n x : Nat) : Option (Fin n) := if h : x < n then some ⟨x, h⟩ else none

/-- A slot code where NONE is allowed: 0..127 or 255 (R174, R176); none for 128..254. -/
def slotOrNone? (x : Nat) : Option (Option (Fin 128)) :=
  if x = 255 then some none else (index? 128 x).map some

/-- An enable octet: off at 0 and on at any other value (R182, R183, R185). -/
def onOff (x : Nat) : Bool := x != 0

/-- Bit `i` of a 32-bit mask (R183, R185). -/
def maskBit (m : BitVec 32) (i : Nat) : Bool := m.getLsbD i

/-! ## Writing reply data (R167) -/

/-- The low octet of a number. -/
def octet (x : Nat) : Byte := BitVec.ofNat 8 x

/-- A number in two octets. -/
def octets2 (x : Nat) : List Byte := [octet (x / 256), octet x]

/-- A number in three octets. -/
def octets3 (x : Nat) : List Byte := octet (x / 65536) :: octets2 x

/-- A number in four octets. -/
def octets4 (x : Nat) : List Byte := octet (x / 16777216) :: octets3 x

/-- A number in five octets. -/
def octets5 (x : Nat) : List Byte := octet (x / 4294967296) :: octets4 x

/-- An enable, a mark or a flag: 0 or 1 (R174). -/
def flagOctet (b : Bool) : Byte := if b then 1 else 0

/-- A slot: 0..127, or 255 for NONE (R174). -/
def slotOctet (s : Option (Fin 128)) : Byte :=
  match s with
  | none => 255
  | some x => octet x.val

/-- A scene: 0..15, or 255 for none (R174). -/
def sceneOctet (s : Option (Fin 16)) : Byte :=
  match s with
  | none => 255
  | some x => octet x.val

/-! ## The codes of R173 and R174 -/

/-- R173: the reply statuses. -/
inductive Status where
  | done
  | badKind
  | badLength
  | badIndex
  | slotTaken
  | sceneLocked
  | coreInUse
  | badShape
  | notReady
  | gap
  | busy
  | quiet
  | checkPassed
  | checkFailed
  | aborted
  deriving DecidableEq, Repr

/-- R173: the status codes. -/
def statusCode : Status → Nat
  | .done => 0
  | .badKind => 1
  | .badLength => 2
  | .badIndex => 3
  | .slotTaken => 4
  | .sceneLocked => 5
  | .coreInUse => 6
  | .badShape => 7
  | .notReady => 8
  | .gap => 9
  | .busy => 10
  | .quiet => 11
  | .checkPassed => 12
  | .checkFailed => 13
  | .aborted => 14

/-- R173: the status octet: LOST_BEFORE in bit 7, the status code in bits 6..0. -/
def statusOctet (lostBefore : Bool) (st : Status) : Byte :=
  octet ((if lostBefore then 128 else 0) + statusCode st)

def gateCode : GateState → Nat
  | .opened => 0
  | .hanging => 1
  | .closed => 2

def phaseCode : Phase → Nat
  | .steady => 0
  | .rising => 1
  | .falling => 2

def coreStateCode : CoreState → Nat
  | .unshaped => 0
  | .shaping => 1
  | .shaped => 2

def sceneStateCode : SceneState → Nat
  | .empty => 0
  | .editing => 1
  | .checking => 2
  | .ready => 3
  | .cued => 4
  | .active => 5
  | .outgoing => 6

def resultCode : CheckResult → Nat
  | .none => 0
  | .passed => 1
  | .failed _ _ => 2

def reasonCode : CheckReason → Nat
  | .badSource => 1
  | .badDestination => 2
  | .badGroup => 3
  | .coreLoop => 4
  | .coreUnshaped => 5

def cueStateCode : CueState → Nat
  | .idle => 0
  | .armed => 1
  | .fading => 2
  | .fadingArmed => 3

def guardStateCode : GuardState → Nat
  | .watch => 0
  | .cut => 1
  | .recover => 2

def portStateCode : PortState → Nat
  | .down => 0
  | .seeking => 1
  | .locked => 2

def turnaroundCode : Turnaround → Nat
  | .chainEnd => 0
  | .through => 1
  | .detached => 2

/-- R188: the hold state codes of EVENTS_READ. -/
def holdStateCode : HoldState → Nat
  | .running => 0
  | .holding => 1
  | .held => 2
  | .resuming => 3

/-- R188: the node condition codes of EVENTS_READ. -/
def conditionCode : Condition → Nat
  | .running => 0
  | .isolated => 1
  | .quiet => 2

/-! ## Tap records (R56, R57, R172) -/

/-- R56: the core line a source or destination code names, 64 + 8c + l. -/
def coreLine? (code : Byte) : Option (Fin 4 × Fin 8) :=
  if 64 ≤ code.toNat then
    match index? 4 ((code.toNat - 64) / 8), index? 8 (code.toNat % 8) with
    | some c, some l => some (c, l)
    | _, _ => none
  else none

/-- R56: the pickup a source code names. -/
def tapPickup? (code : Byte) : Option (Fin 48) := index? 48 code.toNat

/-- R56: the feed a destination code names. -/
def tapFeed? (code : Byte) : Option (Fin 32) := index? 32 code.toNat

/-- R57, R172: the tap record in the 8 octets from octet `i`, with its delay and depth clamped. -/
def tapAt (p : List Byte) (i : Nat) : Tap where
  source := p.getD i 0
  delay := min 32767 (at16 p (i + 1))
  tapGain := BitVec.ofNat 16 (at16 p (i + 3))
  dest := p.getD (i + 5) 0
  group := p.getD (i + 6) 0
  depth := min 7 (at8 p (i + 7))

/-- R172: the 8 octets of a stored tap record. -/
def tapOctets (t : Tap) : List Byte :=
  [t.source] ++ octets2 t.delay ++ octets2 t.tapGain.toNat ++ [t.dest, t.group, octet t.depth]

/-- R101, R184: the `count` records a TAP_WRITE carries, from octet 4 of its parameters. -/
def tapRecords (p : List Byte) (count : Nat) : List Tap :=
  (List.range count).map fun j => tapAt p (4 + 8 * j)

end Sys2Proof.Machine
end

