-- ==== Sys2Proof/Config.lean ====
section
/-!
DEFINITION. What one part fixes outside the rules: the straps that `State.reset` reads.
The spec marks no result as undefined, so there is no free value here (log 27).
-/

namespace Sys2Proof.Config

/-- The LEAD strap read by `State.reset`. DESIGN CHOICE (log 1), unsafe: the straps are the board's. -/
def resetLead : Bool := true

/-- The ADDR3..ADDR0 straps read by `State.reset`. DESIGN CHOICE (log 1), unsafe. -/
def resetAddress : Fin 16 := 0

end Sys2Proof.Config
end

