-- ==== Sys2Proof/Machine/State.lean ====
section
/-!
DEFINITION. The state of the block, the reasons a command could stop, and the state after reset.
-/

namespace Sys2Proof.Machine

/-- The faults. The spec gives the part no stop: bad frames are counted (R7), broken messages discarded
(R159), wrong commands refused in a reply (R176). So the type has no constructor and no command faults. -/
inductive Fault where
  deriving DecidableEq, Repr

/-- The refusals. No command of the block is refused by the model. -/
inductive Refusal where
  /-- A row that has no meaning yet; raised by the dispatch arm alone, safe. No arm raises it. -/
  | notModelled (mnemonic : String)
  deriving DecidableEq, Repr

/-- The whole state: the fourteen blocks of 00_scope section 3, the pins, and the queue of the commands
that wait (the model's own, first in first out). -/
structure State where
  pins : Pins
  chain : Chain
  level : Level
  pickups : Bank 48 Pickup
  buffer : Bank 16 BufferEntry
  delay : Bank 48 SampleMem
  taps : TapEngine
  cores : Bank 4 RevCore
  scenes : Bank 16 Scene
  check : Option CheckRun
  cue : CueUnit
  guards : Bank 32 Guard
  hold : Hold
  lane : Lane
  events : Events
  pattern : Pattern
  pending : List Instr
  deriving DecidableEq, Repr

/-- R154: every block at its power-on values, for the straps read when RST_N rises. HOLD_N is not pulled
from outside (log 5) and no command waits. -/
def State.powerOn (lead : Bool) (address : Fin 16) : State where
  pins := ⟨false, false⟩
  chain := Chain.powerOn lead address
  level := Level.reset
  pickups := Bank.fill 48 Pickup.reset
  buffer := Bank.fill 16 BufferEntry.cleared
  delay := Bank.fill 48 []
  taps := TapEngine.reset
  cores := Bank.fill 4 RevCore.reset
  scenes := Bank.fill 16 Scene.reset
  check := none
  cue := CueUnit.reset
  guards := Bank.fill 32 Guard.reset
  hold := Hold.reset lead
  lane := Lane.reset
  events := Events.reset
  pattern := Pattern.reset
  pending := []

/-- The state right after power-on reset, for the straps of `Config` (log 1). -/
def State.reset : State := State.powerOn Config.resetLead Config.resetAddress

end Sys2Proof.Machine
end

