-- ==== Sys2Proof/Machine/Flags.lean ====
section
/-!
DEFINITION. The flags: event latches, masks, counters and live conditions (R186 to R188), the hold source set
and the hold state (R145 to R147), and the roll-call octet (R166, R169).
-/

namespace Sys2Proof.Machine

/-! ## Hold source set and hold state -/

/-- R145: the hold source set is not empty. -/
def Hold.any (h : Hold) : Bool := h.line || h.message || h.guard || h.start || h.link

/-- R146: MESSAGE or GUARD is in the set. -/
def Hold.drives (h : Hold) : Bool := h.message || h.guard

/-- R147: the hold state the table of section 9.2 gives for a set and a level. -/
def holdStateOf (held : Bool) (level : Nat) : HoldState :=
  if held then (if level < 1024 then .holding else .held)
  else if level = 0 then .running else .resuming

/-- R147: HOLDING or HELD. -/
def HoldState.holds : HoldState → Bool
  | .holding => true
  | .held => true
  | .running => false
  | .resuming => false

/-- R188: the hold source set in one octet. -/
def Hold.octet (h : Hold) : Byte :=
  Machine.octet ((if h.line then 1 else 0) + (if h.message then 2 else 0) + (if h.guard then 4 else 0) +
    (if h.start then 8 else 0) + (if h.link then 16 else 0))

/-! ## Events -/

/-- R186: the latch of event `e` set. -/
def Events.set (e : Event) (ev : Events) : Events := { ev with latch := ev.latch ||| e.word }

/-- R186: the latch of event `e`. -/
def Events.latched (e : Event) (ev : Events) : Bool := ev.latch.getLsbD e.bit

/-- R187: ATTENTION: at least one latch is set and not masked. -/
def Events.attention (ev : Events) : Bool := (ev.latch &&& ~~~ev.mask) != 0

/-- R188: the greatest values of the counters. -/
def top16 : Nat := 65535
def top32 : Nat := 4294967295
def top40 : Nat := 1099511627775

/-- R187: the latch of event `e` set in the state. -/
def State.latch (e : Event) (s : State) : State := { s with events := s.events.set e }

/-- The latch of `e` set when `b`. -/
def State.latchIf (b : Bool) (e : Event) (s : State) : State := if b then s.latch e else s

/-! ## Live conditions (R186) -/

/-- R5: Port U not LOCKED; never true at the leader. -/
def State.liveChainU (s : State) : Bool := !s.chain.leader && s.chain.portU.state != .locked

/-- R5: Port D not LOCKED. -/
def State.liveChainD (s : State) : Bool := s.chain.portD.state != .locked

/-- R141: the live condition of HOWL_LIMIT. -/
def State.liveHowlLimit (s : State) : Bool := s.guards.any Guard.atLimit

/-- R147: the live condition of HOLD_ENTERED. -/
def State.liveHold (s : State) : Bool := s.hold.state != .running

/-- R186: the live condition word of EVENTS_READ. -/
def State.liveWord (s : State) : BitVec 23 :=
  (if s.liveChainU then Event.chainU.word else 0) ||| (if s.liveChainD then Event.chainD.word else 0) |||
    (if s.liveHowlLimit then Event.howlLimit.word else 0) |||
    (if s.liveHold then Event.holdEntered.word else 0)

/-! ## The roll-call octet -/

/-- R142, R166: at least one feed's guard trim is above 0. -/
def State.guardFlag (s : State) : Bool := s.guards.any fun g => decide (0 < g.trim)

/-- R166, R169: the roll-call octet the part writes. -/
def State.rollCall (s : State) : Byte :=
  Machine.octet (128 + (if s.chain.leader then 64 else 0) + (if s.events.attention then 32 else 0) +
    (if s.lane.backpressure then 16 else 0) + (if s.hold.state = .running then 0 else 8) +
    (if s.cue.state.fades then 4 else 0) + (if s.hold.condition = .quiet then 2 else 0) +
    (if s.guardFlag then 1 else 0))

/-! ## Outputs that are functions of the state -/

/-- R146, R154: the part drives HOLD_N low. -/
def State.drivesHoldN (s : State) : Bool := !s.pins.rstLow && s.hold.drives

/-- R146: HOLD_N is low, as the sample sees it: the part or something outside it pulls the line. -/
def State.holdNLow (s : State) : Bool := s.drivesHoldN || s.pins.holdPulled

/-- R1, R16, R154: the Port U transmit side carries line activity. -/
def State.txActiveU (s : State) : Bool :=
  !s.pins.rstLow && !s.chain.leader &&
    (s.chain.turnaround != .detached || s.chain.portD.state != .down)

/-- R1, R16, R154: the Port D transmit side carries line activity. -/
def State.txActiveD (s : State) : Bool :=
  !s.pins.rstLow && (s.chain.leader || s.chain.turnaround != .detached || s.chain.portU.state != .down)

/-! ## Where the part stands -/

/-- R9, R18: the part handles outbound frames: it is the leader, or its Port U is LOCKED. -/
def Chain.handles (c : Chain) : Bool := c.leader || c.portU.state == .locked

/-- R18: computations run. -/
def State.computes (s : State) : Bool := !s.pins.rstLow && s.hold.condition == .running

/-- R99: the scene in a given state, if any. -/
def State.sceneIn (st : SceneState) (s : State) : Option (Fin 16) :=
  (List.finRange 16).find? fun i => (s.scenes.get i).state == st

end Sys2Proof.Machine
end

