-- ==== Sys2Proof/Machine/Kinds.lean ====
section
/-!
DEFINITION. The kind codes of the lane commands (R175).
-/

namespace Sys2Proof.Machine

/-- The kinds the Command Unit recognises, in the order of R175's table. -/
def knownKinds : List Byte :=
  [1, 2, 3, 4, 8, 9, 10, 12, 13, 16, 17, 20, 21, 22, 23, 24, 25, 28, 29, 32, 33, 34, 35, 36, 37,
   40, 41, 42, 44, 45, 48, 49]

/-- R175: the Command Unit recognises this kind. -/
def kindKnown (k : Byte) : Bool := knownKinds.contains k

/-- R157, R176: a command of a kind not in the table: below 128 and unknown. -/
def kindBad (k : Byte) : Bool := decide (k.toNat < 128) && !kindKnown k

/-- R155, R162: NODE_RESET and WAKE reserve no reply entry and are taken whether or not one is FREE. -/
def kindIsReset (k : Byte) : Bool := k == 2 || k == 4

end Sys2Proof.Machine
end

