-- ==== Sys2Proof/Machine/PatternOps.lean ====
section
/-!
DEFINITION. The Slot Pattern Unit (section 12.3): the stream x^23 + x^18 + 1, generator and checker.
-/

namespace Sys2Proof.Machine

/-- R190: the next bit of the stream; bit 0 of the history is its latest bit. -/
def streamBit (h : BitVec 23) : BitVec 1 := BitVec.ofBool (h.getLsbD 17 ^^ h.getLsbD 22)

/-- R190: the next `n` bits of the stream after history `h`, appended to `w`. -/
def streamBits : Nat → BitVec 23 → BitVec 24 → BitVec 24
  | 0, _, w => w
  | n + 1, h, w =>
    streamBits n ((h <<< 1) ||| (streamBit h).setWidth 23) ((w <<< 1) ||| (streamBit h).setWidth 24)

/-- R190: the next word of the stream. -/
def streamWord (h : BitVec 23) : Sample := streamBits 24 h 0

/-- R190: the history after a word, and the predictor seeded from a word: its bits 22..0. -/
def seedOf (word : Sample) : BitVec 23 := word.setWidth 23

/-- R191: the predictor advanced over `n` words. -/
def skipWords : Nat → BitVec 23 → BitVec 23
  | 0, h => h
  | n + 1, h => skipWords n (seedOf (streamWord h))

/-- R191: how many bits two words differ in. -/
def bitsDiffering (a b : Sample) : Nat :=
  ((List.range 24).filter fun i => (a ^^^ b).getLsbD i).length

/-- R190: the generator at a handled frame period. -/
def Pattern.generate (p : Pattern) : Pattern :=
  if p.genOn then { p with history := seedOf (streamWord p.history) } else p

/-- R191: the word that seeds the checker anew: first word, or a gap outside 1..16. -/
def Pattern.reseeds (m : FrameNo) (p : Pattern) : Bool :=
  p.seedNext || decide ((m - p.lastFrame).toNat < 1) || decide ((m - p.lastFrame).toNat > 16)

/-- R191: the word predicted for frame `m`. -/
def Pattern.predicted (m : FrameNo) (p : Pattern) : Sample :=
  streamWord (skipWords ((m - p.lastFrame).toNat - 1) p.predictor)

/-- R191: SEEKING with both runs 0, seeded from a word. -/
def Pattern.seek (word : Sample) (p : Pattern) : Pattern :=
  { p with inSync := false, goodRun := 0, mismatchRun := 0, predictor := seedOf word }

/-- R191: a judged word that is an error in IN_SYNC. -/
def Pattern.errs (m : FrameNo) (word : Sample) (p : Pattern) : Bool :=
  p.chkOn && !p.reseeds m && p.inSync && word != p.predicted m

/-- R191: the checker loses sync at this word. -/
def Pattern.losesSync (m : FrameNo) (word : Sample) (p : Pattern) : Bool :=
  p.errs m word && decide (p.mismatchRun + 1 ≥ 8)

/-- R191: the judged word. -/
def Pattern.judge (m : FrameNo) (word : Sample) (p : Pattern) : Pattern :=
  let next := { p with predictor := seedOf (p.predicted m) }
  if p.inSync then
    if word = p.predicted m then { next with mismatchRun := 0 }
    else if p.mismatchRun + 1 ≥ 8 then p.seek word
    else { next with mismatchRun := p.mismatchRun + 1 }
  else if word = p.predicted m then
    if p.goodRun + 1 ≥ 8 then { next with inSync := true, goodRun := 0, mismatchRun := 0 }
    else { next with goodRun := p.goodRun + 1 }
  else { p with goodRun := 0, predictor := seedOf word }

/-- R191: the checker takes `word` from return frame `m`. -/
def Pattern.take (m : FrameNo) (word : Sample) (p : Pattern) : Pattern :=
  if p.chkOn then
    let judged := if p.reseeds m then p.seek word else p.judge m word
    { judged with lastFrame := m, seedNext := false }
  else p

/-- R192: the settings of a PATTERN_SET. -/
structure PatternParams where
  genOn : Bool
  genSlot : Fin 128
  chkOn : Bool
  chkSlot : Fin 128
  threshold : Nat
  deriving DecidableEq, Repr

/-- R192: the unit after a PATTERN_SET. -/
def Pattern.configure (q : PatternParams) (p : Pattern) : Pattern :=
  { p with
    genOn := q.genOn
    genSlot := q.genSlot
    history := if q.genOn && !p.genOn then BitVec.allOnes 23 else p.history
    chkOn := q.chkOn
    chkSlot := q.chkSlot
    seedNext := q.chkOn && (!p.chkOn || p.seedNext || q.chkSlot != p.chkSlot)
    inSync := q.chkOn && p.inSync
    goodRun := if q.chkOn then p.goodRun else 0
    mismatchRun := if q.chkOn then p.mismatchRun else 0
    threshold := q.threshold }

end Sys2Proof.Machine
end

