-- ==== Sys2Proof/Machine/PickupUnit.lean ====
section
/-!
DEFINITION. The Pickup Unit (chapter 3): one pickup at a tick and in a computation, and its record.
-/

namespace Sys2Proof.Machine

/-- R47, R46 stage 1: the detector takes the running peak. -/
def Pickup.takePeak (p : Pickup) : Pickup := { p with tickPeak := p.peak, peak := 0 }

/-- R48, R49: the gate state and hang count after the detector has judged the tick's peak. -/
def Pickup.moveGate (p : Pickup) : Pickup :=
  match p.gate with
  | .closed =>
    if p.tickPeak ≥ gain p.openCode then { p with gate := .opened, hangCount := 0 }
    else { p with gate := .closed, hangCount := 0 }
  | .opened =>
    if p.tickPeak ≥ gain p.closeCode then { p with gate := .opened, hangCount := 0 }
    else if p.hang > 0 then { p with gate := .hanging, hangCount := p.hang }
    else { p with gate := .closed, hangCount := 0 }
  | .hanging =>
    if p.tickPeak ≥ gain p.closeCode then { p with gate := .opened, hangCount := 0 }
    else if p.hangCount ≤ 1 then { p with gate := .closed, hangCount := 0 }
    else { p with gate := .hanging, hangCount := p.hangCount - 1 }

/-- R50: the gate level after the state has moved. -/
def Pickup.moveLevel (p : Pickup) : Pickup :=
  match p.gate with
  | .closed => { p with level := ramp p.level p.floorCode p.release }
  | .opened => { p with level := ramp p.level 0 p.attack }
  | .hanging => { p with level := ramp p.level 0 p.attack }

/-- R46 stage 1, R51: a pickup at a ramp tick; the detector of a disabled gate does not move. -/
def Pickup.tick (p : Pickup) : Pickup :=
  if p.enable then p.takePeak.moveGate.moveLevel else p.takePeak

/-- R42, R43: the input of a computation; `sample` is none when the computation is concealed. -/
def Pickup.input (p : Pickup) (sample : Option Sample) : Sample :=
  match p.slot with
  | none => 0
  | some _ =>
    match sample with
    | some x => x
    | none => p.held

/-- R52: the gated sample written into the delay line. -/
def Pickup.gated (p : Pickup) (x : Sample) : Sample := toSample (scale23 (x.toInt * (gain p.level : Int)))

/-- R46 stage 4: the peak and the held sample after input `x`. -/
def Pickup.record (x : Sample) (p : Pickup) : Pickup :=
  { p with peak := max p.peak (magnitude x), held := x }

/-- R39: a pickup record as PICKUP_SET gives it, clamped; the close code is raised to the open code.
R51: turning the gate off opens it; turning it on from off starts the detector in OPEN. -/
def Pickup.configure (slot : Option (Fin 128)) (enable : Bool)
    (openCode closeCode hang floorCode attack release : Nat) (p : Pickup) : Pickup :=
  let kept := enable && p.enable
  { p with
    slot := slot
    enable := enable
    openCode := clampCode openCode
    closeCode := max (clampCode openCode) (clampCode closeCode)
    hang := min 255 hang
    floorCode := clampCode floorCode
    attack := min 255 attack
    release := min 255 release
    gate := if kept then p.gate else .opened
    level := if kept then p.level else 0
    hangCount := if kept then p.hangCount else 0 }

/-- R54: the signal state of a pickup cleared on entry into ISOLATED or QUIET. -/
def Pickup.silence (p : Pickup) : Pickup := { p with peak := 0, held := 0 }

/-- R49, R50: the step of the detector at which a HANGING gate's hang count reaches 0, with its peak below the
close threshold: the gate closes and its level starts the release at that tick (the row GATE_HANG_EXPIRE taken
alone, log 4). -/
def Pickup.hangExpire (p : Pickup) : Pickup :=
  if p.enable = true ∧ p.gate = .hanging ∧ p.hangCount ≤ 1 ∧ p.peak < gain p.closeCode
  then Pickup.moveLevel { p with gate := .closed, hangCount := 0 } else p

end Sys2Proof.Machine
end

