-- ==== Sys2Proof/Machine/SceneStore.lean ====
section
/-!
DEFINITION. The Scene Store and the tests of the Check Unit (chapter 6).
-/

namespace Sys2Proof.Machine

/-- R97: crossfade code as stored. -/
def clampFade (k : Nat) : Nat := min 13 k

/-- R97: wander period as stored. -/
def clampWander (p : Nat) : Nat := if p = 0 then 0 else clamp 1000 60000 p

/-- R97: decay time as stored. -/
def clampDecay (t : Nat) : Nat := if t = 0 then 0 else clamp 100 12000 t

/-- R97: damping as stored. -/
def clampDamping (d : Nat) : Nat := min 240 d

/-- R98: the tap count. -/
def Scene.tapCount (sc : Scene) : Nat := sc.taps.length

/-- R99: CUED, ACTIVE and OUTGOING lock the record. -/
def SceneState.locked : SceneState → Bool
  | .cued => true
  | .active => true
  | .outgoing => true
  | .empty => false
  | .editing => false
  | .checking => false
  | .ready => false

/-- The core a source or destination code names, if any (R56). -/
def codeCore? (code : Byte) : Option (Fin 4) := (coreLine? code).map Prod.fst

/-- R76: a tap names a line of core `c`. -/
def Tap.names (c : Fin 4) (t : Tap) : Bool := codeCore? t.source == some c || codeCore? t.dest == some c

/-- R76: a scene references core `c`. -/
def Scene.references (c : Fin 4) (sc : Scene) : Bool := sc.taps.any (Tap.names c)

/-- R102: how many of `count` records fit from index `first`. -/
def tapsWritten (first count : Nat) : Nat := min count (1024 - first)

/-- R102: a tap list with records written from index `first`; those at index 1,024 or beyond are dropped. -/
def writeTaps (taps : List Tap) (first : Nat) (records : List Tap) : List Tap :=
  let kept := records.take (tapsWritten first records.length)
  taps.take first ++ kept ++ taps.drop (first + kept.length)

/-- R109 test 1: a source that names something. -/
def sourceValid (code : Byte) : Bool := (tapPickup? code).isSome || (coreLine? code).isSome

/-- R109 test 2: a destination that names something. -/
def destValid (code : Byte) : Bool := (tapFeed? code).isSome || (coreLine? code).isSome

/-- R109 test 3: a group that names something, or NONE. -/
def groupValid (code : Byte) : Bool := decide (code.toNat < 32) || code == 255

/-- R109 test 5: the core a code names, if any, is SHAPED. -/
def codeShaped (cores : Bank 4 RevCore) (code : Byte) : Bool :=
  match codeCore? code with
  | none => true
  | some c => (cores.get c).state == .shaped

/-- R109: the first test a tap fails. -/
def checkTap (cores : Bank 4 RevCore) (t : Tap) : Option CheckReason :=
  if !sourceValid t.source then some .badSource
  else if !destValid t.dest then some .badDestination
  else if !groupValid t.group then some .badGroup
  else if (coreLine? t.source).isSome && (coreLine? t.dest).isSome then some .coreLoop
  else if !(codeShaped cores t.source && codeShaped cores t.dest) then some .coreUnshaped
  else none

/-- R108: the first failing tap of a list whose first tap has index `i`. -/
def firstFailure (cores : Bank 4 RevCore) : Nat → List Tap → Option (Nat × CheckReason)
  | _, [] => none
  | i, t :: rest =>
    match checkTap cores t with
    | some r => some (i, r)
    | none => firstFailure cores (i + 1) rest

/-- What one computation of the Check Unit comes to (R108). -/
inductive CheckStep where
  | failed (tap : Nat) (reason : CheckReason)
  | passed
  | goesOn (next : Nat)
  deriving DecidableEq, Repr

/-- R108: up to 64 further taps examined. -/
def examine (cores : Bank 4 RevCore) (sc : Scene) (next : Nat) : CheckStep :=
  match firstFailure cores next ((sc.taps.drop next).take 64) with
  | some (i, r) => .failed i r
  | none => if next + 64 ≥ sc.tapCount then .passed else .goesOn (next + 64)

end Sys2Proof.Machine
end

