-- ==== Sys2Proof/Machine/TapUnit.lean ====
section
/-!
DEFINITION. The Tap Engine (chapter 4): effective gains, wander, destination sums and the mix.
-/

namespace Sys2Proof.Machine

/-- R61: the base effective gain of a tap of gain `g` whose group has linear gain `lg`. -/
def baseGain (g : Int) (lg : Nat) : Int := scale15 (g * (lg : Int))

/-- R27, R61: the linear gain of the group a tap follows; NONE is unity. A group that names nothing never
runs (R57), and gives 0 (log 26). -/
def groupGain (groups : Bank 32 Group) (code : Byte) : Nat :=
  if code = 255 then 8388608
  else match index? 32 code.toNat with
    | some g => gain (groups.get g).current
    | none => 0

/-- R63 steps 1 and 2: the phase of the tap at index `t`, period `p`, wander tick count `n`. -/
def wanderPhase (p n t : Nat) : Nat := (n + (t % 8 * p) / 8) % p

/-- R63 steps 3 and 4: the triangle, -32,768..32,767. -/
def triangle (p phase : Nat) : Int :=
  let h : Int := (65536 * (phase : Int)) / (p : Int)
  if h < 32768 then 2 * h - 32768 else 98303 - 2 * h

/-- R63 step 5: the wander factor M. -/
def wanderFactor (depth p n t : Nat) : Int :=
  32768 - ((depth : Int) * (triangle p (wanderPhase p n t) + 32768)) / 128

/-- R63: the effective gain from the base effective gain `e`. -/
def wandered (depth p n t : Nat) (e : Int) : Int :=
  if depth = 0 ∨ p = 0 then e else scale15 (e * wanderFactor depth p n t)

/-- R60, R61, R63: the effective gain of the tap at index `t`. -/
def effectiveGain (groups : Bank 32 Group) (p n t : Nat) (tap : Tap) : Int :=
  wandered tap.depth p n t (baseGain tap.tapGain.toInt (groupGain groups tap.group))

/-- R60: the effective gains of a tap list whose first tap has index `t`. -/
def gainsFrom (groups : Bank 32 Group) (p n : Nat) : Nat → List Tap → List Int
  | _, [] => []
  | t, tap :: rest => effectiveGain groups p n t tap :: gainsFrom groups p n (t + 1) rest

/-- R60: the effective gain set of a scene at wander tick count `n`. -/
def gainSet (groups : Bank 32 Group) (sc : Scene) (n : Nat) : List Int :=
  gainsFrom groups sc.header.wander n 0 sc.taps

/-- R62: the wander tick count at a ramp tick, kept modulo the period `p`. -/
def wanderNext (p n : Nat) : Nat := if n + 1 ≥ p then 0 else n + 1

/-- R66: the destination sum of destination code `code`; `source` gives each tap's source value. -/
def destSum (source : Tap → Int) (code : Byte) : List Tap → List Int → Int
  | t :: ts, g :: gs => (if t.dest = code then source t * g else 0) + destSum source code ts gs
  | [], _ => 0
  | _ :: _, [] => 0

/-- R67: the scene value of a destination. -/
def sceneValue (source : Tap → Int) (code : Byte) (sc : Scene) (gains : Option (List Int)) : Int :=
  scale23 (destSum source code sc.taps (gains.getD []))

end Sys2Proof.Machine
end

