-- ==== Sys2Proof/Machine/Wire.lean ====
section
/-!
DEFINITION. The wire formats of section 10.7 and the frame check: frames, lane segments, messages.
-/

namespace Sys2Proof.Machine

/-! ## The check (R3) -/

/-- R3: one bit into the CRC register, polynomial x^16 + x^12 + x^5 + 1. -/
def crcBit (crc : BitVec 16) (bit : Bool) : BitVec 16 :=
  if crc.msb == bit then crc <<< 1 else (crc <<< 1) ^^^ 0x1021#16

/-- R3: one octet into the CRC register, most significant bit first. -/
def crcOctet (crc : BitVec 16) (o : Byte) : BitVec 16 :=
  crcBit (crcBit (crcBit (crcBit (crcBit (crcBit (crcBit (crcBit crc
    (o.getLsbD 7)) (o.getLsbD 6)) (o.getLsbD 5)) (o.getLsbD 4))
    (o.getLsbD 3)) (o.getLsbD 2)) (o.getLsbD 1)) (o.getLsbD 0)

/-- R3: the CRC-16 of a sequence of octets; the register starts at 0xFFFF. -/
def crc16 (octets : List Byte) : BitVec 16 := octets.foldl crcOctet 0xFFFF#16

/-- R3: the check, most significant octet first. -/
def crcOctets (octets : List Byte) : List Byte := octets2 (crc16 octets).toNat

/-- R3: octets `n` and `n + 1` are the check of the `n` octets before them. -/
def checkMatches (octets : List Byte) (n : Nat) : Bool :=
  at16 octets n == (crc16 (octets.take n)).toNat

/-! ## Lane segments (R170) -/

/-- R170: a lane segment: its mark octet and its 7 payload octets. -/
structure Segment where
  mark : Byte
  payload : Bank 7 Byte
  deriving DecidableEq, Repr

/-- R156, R170: the marks; any other mark octet is a bad segment. -/
inductive Mark where
  | empty
  | only
  | first
  | more
  | last
  | bad
  deriving DecidableEq, Repr

/-- R170: the mark a mark octet stands for. -/
def markOf (o : Byte) : Mark :=
  if o = 0 then .empty
  else if o = 1 then .only
  else if o = 2 then .first
  else if o = 3 then .more
  else if o = 4 then .last
  else .bad

/-- R2: the EMPTY segment of a frame as the leader originates it. -/
def Segment.empty : Segment := ⟨0, Bank.fill 7 0⟩

/-! ## Frames (R168) -/

/-- R168: the fields of a frame, less the frame check. `ret` is the direction bit: RETURN. -/
structure Frame where
  number : FrameNo
  ret : Bool
  turned : Bool
  turner : Fin 16
  slots : Bank 128 Sample
  roll : Bank 16 Byte
  segment : Segment
  deriving DecidableEq, Repr

/-- R168: octet 4 of a frame; bits 5..4 are sent as 0. -/
def Frame.flagsOctet (f : Frame) : Byte :=
  octet ((if f.ret then 128 else 0) + (if f.turned then 64 else 0) + f.turner.val)

/-- R168: octets 0..412 of a frame. -/
def Frame.body (f : Frame) : List Byte :=
  octets4 f.number.toNat ++ [f.flagsOctet] ++ f.slots.items.flatMap (fun x => octets3 x.toNat) ++
    f.roll.items ++ [f.segment.mark] ++ f.segment.payload.items

/-- R3, R168: the 415 octets of a frame, with its check. -/
def Frame.octets (f : Frame) : List Byte := f.body ++ crcOctets f.body

/-- R168: slot `i` of a frame's octets. -/
def slotAt (o : List Byte) (i : Fin 128) : Sample :=
  BitVec.ofNat 24 (at8 o (5 + 3 * i.val) * 65536 + at16 o (6 + 3 * i.val))

/-- R168: the fields of 415 octets; bits 5..4 of octet 4 are ignored. -/
def Frame.ofOctets (o : List Byte) : Frame where
  number := at32 o 0
  ret := (o.getD 4 0).getLsbD 7
  turned := (o.getD 4 0).getLsbD 6
  turner := ⟨at8 o 4 % 16, Nat.mod_lt _ (by decide)⟩
  slots := Bank.ofFn (slotAt o)
  roll := Bank.ofFn fun i => o.getD (389 + i.val) 0
  segment := ⟨o.getD 405 0, Bank.ofFn fun i => o.getD (406 + i.val) 0⟩

/-- R4: the frame of a good frame at a port (`ret` is the direction the port must see); none for a bad one.
Octets of another number than 415 are a bad frame (log 9). -/
def goodFrame? (ret : Bool) (o : List Byte) : Option Frame :=
  if o.length = 415 ∧ checkMatches o 413 = true ∧ (Frame.ofOctets o).ret = ret
  then some (Frame.ofOctets o) else none

/-- R2: a frame as the leader originates it. -/
def Frame.originate (n : FrameNo) : Frame where
  number := n
  ret := false
  turned := false
  turner := 0
  slots := Bank.fill 128 0
  roll := Bank.fill 16 0
  segment := Segment.empty

/-- R12: the turned copy of an outbound frame. -/
def Frame.turnedBy (f : Frame) (address : Fin 16) : Frame :=
  { f with ret := true, turned := true, turner := address }

/-! ## Messages (R157, R171) -/

/-- R157: how many segments a message of parameter length `n` fills. -/
def segmentsNeeded (n : Nat) : Nat := (n + 7 + 6) / 7

/-- R171: the octets of a message. -/
def messageOctets (dest kind tag : Byte) (params : List Byte) : List Byte :=
  let head := [dest, kind, tag] ++ octets2 params.length ++ params
  head ++ crcOctets head

/-- R157, R171: the octets of a reply. -/
def Reply.octets (r : Reply) : List Byte := messageOctets (octet r.dest.val) r.kind r.tag r.params

/-- R157: how many segments a reply fills. -/
def Reply.segments (r : Reply) : Nat := segmentsNeeded r.params.length

/-- R157, R170: the mark octet of segment `i` of `m`. -/
def markOctet (i m : Nat) : Byte :=
  if m ≤ 1 then 1 else if i = 0 then 2 else if i + 1 = m then 4 else 3

/-- R157: segment `i` of the `m` a message's octets fill; octets beyond the check are 0. -/
def messageSegment (octets : List Byte) (m i : Nat) : Segment :=
  ⟨markOctet i m, Bank.ofFn fun j => octets.getD (7 * i + j.val) 0⟩

/-- R157: segment `i` of a reply. -/
def Reply.segment (r : Reply) (i : Nat) : Segment := messageSegment r.octets r.segments i

end Sys2Proof.Machine
end

