-- ==== Sys2Proof/Machine/Ops.lean ====
section
/-!
DEFINITION. The shared operations over the state: the reply queue, the command queue and the Command Unit
(R161 to R163, R176, R177), the abort of a check (R111), the resets (R154, R155), the entries into ISOLATED
and QUIET (R15, R151), and the forming of the hold state (R147).
-/

namespace Sys2Proof.Machine

/-! ## Reply queue (R163) -/

/-- R163: the RESERVED reply entries between steps: the running check's. -/
def State.reservedReplies (s : State) : Nat :=
  match s.check with
  | some c => if c.replyTo.isSome then 1 else 0
  | none => 0

/-- R163: the FREE reply entries. -/
def State.freeReplies (s : State) : Nat := 4 - (s.lane.ready.length + s.reservedReplies)

/-- R177: the reply for a ticket: kind + 128, status octet, data. -/
def Ticket.reply (t : Ticket) (st : Status) (data : List Byte) : Reply :=
  ⟨t.source, t.kind + 128, t.tag, statusOctet t.lostBefore st :: data⟩

/-- R163: an entry becomes READY with its reply, after those already READY. -/
def State.pushReply (t : Ticket) (st : Status) (data : List Byte) (s : State) : State :=
  { s with lane := { s.lane with ready := s.lane.ready ++ [t.reply st data] } }

/-- The reply for a ticket that may be missing (a broadcast check has no entry, R110). -/
def State.pushReply? (t : Option Ticket) (st : Status) (data : List Byte) (s : State) : State :=
  match t with
  | some t => s.pushReply t st data
  | none => s

/-! ## Scenes -/

/-- The state of scene `i` set. -/
def State.setSceneState (i : Fin 16) (st : SceneState) (s : State) : State :=
  { s with scenes := s.scenes.modify i fun sc => { sc with state := st } }

/-- R110: a check of scene `i` that passes. -/
def State.endCheckPass (c : CheckRun) (s : State) : State :=
  State.pushReply? c.replyTo .checkPassed
    (octet c.scene.val :: octets2 (s.scenes.get c.scene).tapCount)
    { s with
      check := none
      scenes := s.scenes.modify c.scene fun sc => { sc with state := .ready, result := .passed } }

/-- R110: a check that fails at tap `i` for reason `r`. -/
def State.endCheckFail (c : CheckRun) (i : Nat) (r : CheckReason) (s : State) : State :=
  State.pushReply? c.replyTo .checkFailed
    (octet c.scene.val :: octets2 i ++ [octet (reasonCode r)])
    { s with
      check := none
      scenes := s.scenes.modify c.scene fun sc => { sc with state := .editing, result := .failed i r } }

/-- R111: the running check aborted: idle, ABORTED sent, the scene EDITING, its last result kept. -/
def State.abortCheck (s : State) : State :=
  match s.check with
  | none => s
  | some c =>
    State.pushReply? c.replyTo .aborted [octet c.scene.val]
      { s with
        check := none
        scenes := s.scenes.modify c.scene fun sc => { sc with state := .editing } }

/-- R111: the running check aborted when it is of scene `i`. -/
def State.abortCheckOf (i : Fin 16) (s : State) : State :=
  match s.check with
  | none => s
  | some c => if c.scene = i then s.abortCheck else s

/-! ## Hold state (R147) and conditions -/

/-- R147: the hold state formed from the set and the level; HOLD_ENTERED on entry into HOLDING or HELD. -/
def State.formHold (s : State) : State :=
  let st := holdStateOf s.hold.any s.level.hold
  State.latchIf (st.holds && !s.hold.state.holds) .holdEntered
    { s with hold := { s.hold with state := st } }

/-- R15, R36, R151: the hold level set to 1024 at once and the hold state formed at once. -/
def State.holdAtOnce (s : State) : State :=
  State.formHold { s with level := { s.level with hold := 1024 } }

/-- R54, R74, R94: Delay Memory, line memories, damping states, buffer entries, held samples and running
peaks cleared, on entry into ISOLATED and into QUIET. -/
def State.clearMemories (s : State) : State :=
  { s with
    pickups := s.pickups.map Pickup.silence
    buffer := Bank.fill 16 BufferEntry.cleared
    delay := Bank.fill 48 []
    cores := s.cores.map RevCore.silence
    taps := { s.taps with peaks := Bank.fill 32 0 } }

/-- R15, R159: every message in assembly is broken and counted. -/
def State.breakContexts (s : State) : State :=
  let n := s.lane.contexts.count Option.isSome
  State.latchIf (decide (0 < n)) .laneBroken
    { s with
      lane := { s.lane with contexts := Bank.fill 16 none }
      events := { s.events with broken := countUp top32 s.events.broken n } }

/-- R15, R143: a RUNNING member becomes ISOLATED; a QUIET one stays QUIET with its memories already clear.
An ISOLATED one (no entry, for Port U was not LOCKED) is as it was. -/
def State.isolate (s : State) : State :=
  match s.hold.condition with
  | .running =>
    State.holdAtOnce (State.clearMemories
      { s with
        hold := { s.hold with condition := .isolated, link := true }
        guards := s.guards.map Guard.isolate })
  | .quiet => { s with hold := { s.hold with link := true } }
  | .isolated => { s with hold := { s.hold with link := true } }

/-- R15, R16: what loss of a member's Port U brings beside the port itself: DETACHED, the discard mark
cleared (R13), the condition, the contexts, and a reply in transmission to be started again (log 12). -/
def State.loseUpstream (s : State) : State :=
  State.breakContexts (State.isolate
    { s with
      chain := { s.chain with turnaround := .detached, discard := false, switchOpen := false }
      lane := { s.lane with sent := 0 } })

/-- R151: QUIET taken. -/
def State.enterQuiet (s : State) : State :=
  let a := s.abortCheck
  State.holdAtOnce (State.clearMemories
    { a with hold := { a.hold with condition := .quiet, message := false, guard := false, start := true } })

/-! ## Resets -/

/-- R155: every block but the Chain Interface takes its reset values; the pins and the model's queue stay. A reply in
transmission is cut; no mark is kept that the next own turn is to carry EMPTY (log 34). -/
def State.nodeReset (s : State) : State where
  pins := s.pins
  chain := s.chain
  level := Level.reset
  pickups := Bank.fill 48 Pickup.reset
  buffer := Bank.fill 16 BufferEntry.cleared
  delay := Bank.fill 48 []
  taps := TapEngine.reset
  cores := Bank.fill 4 RevCore.reset
  scenes := Bank.fill 16 Scene.reset
  check := none
  cue := CueUnit.reset
  guards := Bank.fill 32 Guard.reset
  hold := Hold.reset s.chain.handles
  lane := Lane.reset
  events := Events.reset
  pattern := Pattern.reset
  pending := s.pending

/-- R154: RST_N rises: the straps are read and every block takes its power-on values. What pulls HOLD_N from
outside and the model's queue stay. -/
def State.restart (lead : Bool) (address : Fin 16) (s : State) : State :=
  { State.powerOn lead address with pins := ⟨false, s.pins.holdPulled⟩, pending := s.pending }

/-! ## The command queue (R161) -/

/-- R161: BACKPRESSURE after an addition that leaves `n` entries. -/
def pressureAdded (n : Nat) (old : Bool) : Bool := if n ≥ 6 then true else old

/-- R161: BACKPRESSURE after a taking that leaves `n` entries. -/
def pressureTaken (n : Nat) (old : Bool) : Bool := if n ≤ 3 then false else old

/-- R161: a command offered to the queue: added at the tail with the LOST_BEFORE mark when loss is pending,
or dropped when the queue holds 8 entries. -/
def State.offer (source : Fin 16) (kind tag : Byte) (params : List Byte) (broadcast : Bool)
    (s : State) : State :=
  if s.lane.queue.length < 8 then
    { s with
      lane := { s.lane with
        queue := s.lane.queue ++ [⟨source, kind, tag, params, broadcast, s.lane.lossPending⟩]
        lossPending := false
        backpressure := pressureAdded (s.lane.queue.length + 1) s.lane.backpressure } }
  else
    State.latch .queueOverrun
      { s with
        lane := { s.lane with lossPending := true }
        events := { s.events with dropped := countUp top16 s.events.dropped 1 } }

/-! ## The Command Unit (R162, R176, R177) -/

/-- What the Command Unit comes to with a command: refused with a status, or taken, with the state it leaves
and the reply due, if any. -/
inductive Verdict where
  | refused (st : Status)
  | taken (s : State) (reply : Option (Status × List Byte))

/-- What a reply keeps of a queue entry (R162). -/
def Entry.ticket (e : Entry) : Ticket := ⟨e.source, e.tag, e.kind, e.lostBefore⟩

/-- R162: the Command Unit may take this entry: it is broadcast, or NODE_RESET or WAKE, or a reply entry is
FREE. -/
def State.mayTake (e : Entry) (s : State) : Bool :=
  e.broadcast || kindIsReset e.kind || decide (0 < s.freeReplies)

/-- R161, R162: the oldest entry leaves the queue, which then is `rest`. -/
def State.popQueue (rest : List Entry) (s : State) : State :=
  { s with
    lane := { s.lane with
      queue := rest
      backpressure := pressureTaken rest.length s.lane.backpressure } }

/-- R162, R176, R177: what becomes of a judged command: its reply, or for a broadcast the COMMAND_REFUSED
latch. -/
def State.settle (e : Entry) (s : State) : Verdict → State
  | .refused st => if e.broadcast then s.latch .commandRefused else s.pushReply e.ticket st []
  | .taken t none => t
  | .taken t (some (st, data)) => if e.broadcast then t else t.pushReply e.ticket st data

/-- R162: a command is carried out; a broadcast query is not, and latches COMMAND_REFUSED. -/
def State.carryOut (query : Bool) (judge : Entry → State → Verdict) (e : Entry) (s : State) : State :=
  if query && e.broadcast then s.latch .commandRefused else s.settle e (judge e s)

/-- R162: the Command Unit takes the oldest entry of the queue, when it is of kind `kind` and may be taken;
else the row's step does not occur. -/
def State.takeHead (kind : Byte) (query : Bool) (judge : Entry → State → Verdict) (s : State) : State :=
  match s.lane.queue with
  | [] => s
  | e :: rest =>
    if e.kind = kind ∧ s.mayTake e = true then (s.popQueue rest).carryOut query judge e else s

/-- A lane command row (log 3): the oldest queue entry is taken, or a message completes and is offered to the
queue, and is taken at once when it stands at its head. While RST_N is low nothing happens (R154). -/
def State.laneCommand (kind : Byte) (query : Bool) (judge : Entry → State → Verdict) (t : Taking)
    (s : State) : State :=
  if s.pins.rstLow then s
  else match t with
    | .queued => s.takeHead kind query judge
    | .arriving m =>
      let offered := s.offer m.source kind m.tag m.params m.broadcast
      if s.lane.queue = [] then offered.takeHead kind query judge else offered

/-- R176 steps 2 and 3: the condition and the length test before `judge`; `inQuiet` says that the kind is taken
in QUIET (R175). -/
def judged (inQuiet : Bool) (length : Nat) (judge : List Byte → State → Verdict) (e : Entry)
    (s : State) : Verdict :=
  if s.hold.condition = .quiet ∧ inQuiet = false then .refused .quiet
  else if e.params.length ≠ length then .refused .badLength
  else judge e.params s

/-- A query answered with DONE and its data (R177); nothing changes. -/
def answered (s : State) (data : List Byte) : Verdict := .taken s (some (.done, data))

/-- A posted command taken: no reply (R175). -/
def applied (s : State) : Verdict := .taken s none

end Sys2Proof.Machine
end

