-- ==== Sys2Proof/Machine/Compute.lean ====
section
/-!
DEFINITION. One computation (R18): the HOLD_N sample, the cue test and fire, the ramp tick, the pickups, the
cores, the taps, the output stage, the Check Unit and the Howl Guard, in the order of R46, R65, R82, R121,
R124, R135 and R146 (log 20). The event rows of the table call the same parts (log 4).
-/

namespace Sys2Proof.Machine

/-! ## Start of the computation -/

/-- R146: HOLD_N sampled: a low line adds LINE, a high line removes it. -/
def State.sampleHold (s : State) : State := { s with hold := { s.hold with line := s.holdNLow } }

/-! ## Fire and end of a crossfade -/

/-- R100, R122: the scene states at fire: the ACTIVE scene OUTGOING, the target ACTIVE. -/
def fireScenes (target : Fin 16) (scenes : Bank 16 Scene) : Bank 16 Scene :=
  scenes.mapIdx fun i sc =>
    if i = target then { sc with state := .active }
    else if sc.state = .active then { sc with state := .outgoing } else sc

/-- R122: the armed cue with target `t` fires in computation `k`. -/
def State.fireTarget (t : Fin 16) (k : FrameNo) (s : State) : State :=
  let silence := (s.sceneIn .active).isNone
  let sc := s.scenes.get t
  let late := s.cue.fireEvent k
  let fired : State :=
    { s with
      scenes := fireScenes t s.scenes
      cue := s.cue.fire sc.header.fadeCode silence
      cores := s.cores.map RevCore.fire
      taps := { s.taps with
        gainActive := some (gainSet s.level.groups sc 0)
        gainOutgoing := if silence then none else s.taps.gainActive } }
  match late with
  | some e => (fired.latch .cueFired).latch e
  | none => fired.latch .cueFired

/-- R122: the armed cue fires in computation `k`. -/
def State.fire (k : FrameNo) (s : State) : State :=
  match s.cue.target with
  | some t => s.fireTarget t k
  | none => s

/-- R121: the due test is made in computation `k` and finds the cue due. -/
def State.fires (k : FrameNo) (s : State) : Bool := s.cue.state == .armed && s.cue.due k

/-- R121, R126: the due test of computation `k`. -/
def State.testCue (k : FrameNo) (s : State) : State :=
  if s.fires k then s.fire k
  else if s.cue.state = .armed then { s with cue := { s.cue with firstTest := false } }
  else s

/-- R100, R125: the scene states when a crossfade ends; `armed` is the armed target. -/
def endFadeScenes (armed : Option (Fin 16)) (scenes : Bank 16 Scene) : Bank 16 Scene :=
  scenes.mapIdx fun i sc =>
    if sc.state = .outgoing then { sc with state := if armed = some i then .cued else .ready } else sc

/-- R125: the crossfade ends. -/
def State.endFade (s : State) : State :=
  { s with
    scenes := endFadeScenes s.cue.target s.scenes
    cue := s.cue.endFade
    cores := s.cores.map RevCore.endFade
    taps := { s.taps with gainOutgoing := none } }

/-! ## The ramp tick -/

/-- R23: computation `k` is a ramp tick. -/
def isTick (k : FrameNo) : Bool := k.toNat % 48 == 0

/-- R23, R25, R29, R35: the Level Unit at a tick, by the hold source set as it stands. -/
def State.tickLevel (s : State) : State := { s with level := s.level.tick s.hold.any }

/-- R46 stage 1: the gates at a tick. -/
def State.tickGates (s : State) : State := { s with pickups := s.pickups.map Pickup.tick }

/-- R124, R125: the weight at a tick, and the end of the crossfade when it reaches 8192; not at the fire. -/
def State.tickFade (fired : Bool) (s : State) : State :=
  if s.cue.state.fades && !fired then
    let raised : State := { s with cue := s.cue.raise }
    if raised.cue.weight ≥ 8192 then raised.endFade else raised
  else s

/-- R62: the wander period of the scene in state `st`. -/
def State.periodOf (st : SceneState) (s : State) : Nat :=
  match s.sceneIn st with
  | some i => (s.scenes.get i).header.wander
  | none => 0

/-- R62: the wander tick counts at a tick; the count of a scene fired in this computation stays 0. -/
def State.tickWander (fired : Bool) (s : State) : State :=
  { s with
    cue := { s.cue with
      wanderActive :=
        if fired then s.cue.wanderActive else s.cue.wanderActive.map (wanderNext (s.periodOf .active))
      wanderOutgoing := s.cue.wanderOutgoing.map (wanderNext (s.periodOf .outgoing)) } }

/-- R60: the effective gain set of the scene in state `st` at wander tick count `n`, if it runs. -/
def State.gainsOf (st : SceneState) (n : Option Nat) (s : State) : Option (List Int) :=
  (s.sceneIn st).map fun i => gainSet s.level.groups (s.scenes.get i) (n.getD 0)

/-- R60: the effective gain sets recomputed at a tick. -/
def State.tickGains (s : State) : State :=
  { s with
    taps := { s.taps with
      gainActive := s.gainsOf .active s.cue.wanderActive
      gainOutgoing := s.gainsOf .outgoing s.cue.wanderOutgoing } }

/-- R23, R46, R60, R62, R124, R147: what a ramp tick moves before the samples of the computation. -/
def State.rampTick (fired : Bool) (s : State) : State :=
  State.tickGains (State.tickWander fired (State.tickFade fired
    (State.tickGates (State.formHold s.tickLevel))))

/-! ## Pickups -/

/-- R42: the buffer entry of computation `k` is valid and carries its tag. -/
def State.entryFound (k : FrameNo) (s : State) : Bool :=
  let e := s.buffer.get ⟨k.toNat % 16, Nat.mod_lt _ (by decide)⟩
  e.valid && e.tag == k

/-- R42, R43: the input of pickup `i` in computation `k`. -/
def State.inputOf (k : FrameNo) (s : State) (i : Fin 48) : Sample :=
  (s.pickups.get i).input
    (if s.entryFound k then
      some ((s.buffer.get ⟨k.toNat % 16, Nat.mod_lt _ (by decide)⟩).samples.get i)
    else none)

/-- R52, R53: the position of number `n` in a delay line. -/
def delayPosition (n : FrameNo) : Nat := n.toNat % 32768

/-- R43, R46 stages 2 to 4, R52: the pickups and Delay Memory in computation `k`. -/
def State.runPickups (k : FrameNo) (s : State) : State :=
  State.latchIf (!s.entryFound k) .lateReturn
    { s with
      delay := s.delay.mapIdx fun i m =>
        m.write (delayPosition k) ((s.pickups.get i).gated (s.inputOf k i))
      pickups := s.pickups.mapIdx fun i p => p.record (s.inputOf k i)
      events := { s.events with
        concealed := countUp top32 s.events.concealed (if s.entryFound k then 0 else 1) } }

/-! ## Taps -/

/-- R68, R69: the crossfade weight, when a crossfade is in progress. -/
def State.fadeWeight (s : State) : Option Nat := if s.cue.state.fades then some s.cue.weight else none

/-- R59, R93: the output of line `l` of core `c` in this computation. -/
def State.lineOutput (s : State) (c : Fin 4) (l : Fin 8) : Int :=
  (s.cores.get c).lineOutput ((s.cores.get c).formInUse s.fadeWeight) l

/-- R53, R58, R59: the source value of a tap in computation `k`. A source that names nothing never runs
(R57), and gives 0 (log 26). -/
def State.sourceValue (k : FrameNo) (s : State) (t : Tap) : Int :=
  match tapPickup? t.source with
  | some i => ((s.delay.get i).read (delayPosition (k - BitVec.ofNat 32 t.delay))).toInt
  | none =>
    match coreLine? t.source with
    | some (c, l) => s.lineOutput c l
    | none => 0

/-- R66, R67: the value of destination `code` of the scene in state `st`; 0 when none is. -/
def State.valueOf (k : FrameNo) (st : SceneState) (gains : Option (List Int)) (code : Byte)
    (s : State) : Int :=
  match s.sceneIn st with
  | some i => sceneValue (s.sourceValue k) code (s.scenes.get i) gains
  | none => 0

/-- R68 to R70: the mixed value of destination `code` in computation `k`. -/
def State.mixed (k : FrameNo) (code : Byte) (s : State) : Int :=
  let new := s.valueOf k .active s.taps.gainActive code
  match s.fadeWeight with
  | none => new
  | some w => crossfade (s.valueOf k .outgoing s.taps.gainOutgoing code) new w

/-- R56, R71: the destination code of feed `f`. -/
def feedCode (f : Fin 32) : Byte := octet f.val

/-- R56, R71: the destination code of core line (c, l). -/
def lineCode (c : Fin 4) (l : Fin 8) : Byte := octet (64 + 8 * c.val + l.val)

/-- R71: the injection into line (c, l) in computation `k`. -/
def State.injection (k : FrameNo) (s : State) (c : Fin 4) (l : Fin 8) : Int := s.mixed k (lineCode c l)

/-! ## Output stage -/

/-- R31: the feed total of feed `f`. -/
def State.totalOf (s : State) (f : Fin 32) : Nat :=
  feedTotal (s.level.feeds.get f).trim (s.guards.get f).trim s.level.hold

/-- R32: the out value of feed `f` before saturation. -/
def State.rawOut (k : FrameNo) (s : State) (f : Fin 32) : Int :=
  outputValue (s.mixed k (feedCode f)) (s.totalOf f)

/-- R32: the out values of the feeds. -/
def State.feedOuts (k : FrameNo) (s : State) : Bank 32 Sample := Bank.ofFn fun f => toSample (s.rawOut k f)

/-- R33: how many feeds saturate. -/
def State.feedClips (k : FrameNo) (s : State) : Nat :=
  ((List.finRange 32).filter fun f => overflows24 (s.rawOut k f)).length

/-- R33: FEED_CLIP and its counter. -/
def State.countFeedClips (n : Nat) (s : State) : State :=
  State.latchIf (decide (0 < n)) .feedClip
    { s with events := { s.events with feedClips := countUp top32 s.events.feedClips n } }

/-- R73: the running feed peaks take the out values. -/
def State.recordPeaks (outs : Bank 32 Sample) (s : State) : State :=
  { s with
    taps := { s.taps with
      peaks := s.taps.peaks.mapIdx fun f p => max p (magnitude (outs.get f)) } }

/-! ## Check Unit -/

/-- R108: the running check advances by one computation. -/
def State.advanceCheck (s : State) : State :=
  match s.check with
  | none => s
  | some c =>
    match examine s.cores (s.scenes.get c.scene) c.next with
    | .failed i r => s.endCheckFail c i r
    | .passed => s.endCheckPass c
    | .goesOn n => { s with check := some { c with next := n } }

/-! ## Cores -/

/-- R86: how many lines of the SHAPED cores saturate. -/
def State.coreClips (w : Option Nat) (inj : Fin 4 → Fin 8 → Int) (s : State) : Nat :=
  ((List.finRange 4).map fun c =>
    if (s.cores.get c).state = .shaped then (s.cores.get c).clips ((s.cores.get c).formInUse w) (inj c)
    else 0).sum

/-- R80, R82, R86: the cores in a computation. -/
def State.runCores (w : Option Nat) (inj : Fin 4 → Fin 8 → Int) (s : State) : State :=
  State.latchIf (decide (0 < s.coreClips w inj)) .coreClip
    { s with
      cores := s.cores.mapIdx fun i c => c.compute w (inj i)
      events := { s.events with
        coreClips := countUp top32 s.events.coreClips (s.coreClips w inj) } }

/-! ## Howl Guard -/

/-- R135, R141: the Howl Guard at a tick. `moved f` says that feed `f`'s trim or the hold level moved at this
tick (R136). HOWL_LIMIT is latched when its condition begins, judged over the whole tick (log 17), and at
every cut that finds the trim at the limit; such a cut on an escalating feed adds GUARD. -/
def State.tickGuard (moved : Fin 32 → Bool) (s : State) : State :=
  let peaks := s.taps.peaks
  let judge (p : Fin 32 → Guard → Bool) : Bool := (List.finRange 32).any fun f => p f (s.guards.get f)
  let cut := judge fun f g => g.cuts (moved f) (peaks.get f)
  let found := judge fun f g => g.cutsAtLimit (moved f) (peaks.get f)
  let escalates := judge fun f g => g.cutsAtLimit (moved f) (peaks.get f) && g.escalate
  let t : State :=
    { s with
      guards := s.guards.mapIdx fun f g => g.tick (moved f) (peaks.get f)
      taps := { s.taps with peaks := Bank.fill 32 0 }
      hold := { s.hold with guard := s.hold.guard || escalates } }
  State.latchIf (found || (!s.liveHowlLimit && t.liveHowlLimit)) .howlLimit (State.latchIf cut .howlCut t)

/-- R136: which feeds' stages moved between two states of the Level Unit. -/
def levelMoved (old new : Level) (f : Fin 32) : Bool :=
  (old.feeds.get f).trim != (new.feeds.get f).trim || old.hold != new.hold

/-! ## The whole computation -/

/-- R146, R121, R23: computation `k` up to its samples: sample, cue test, ramp tick. -/
def State.beginComputation (k : FrameNo) (s : State) : State :=
  let sampled := s.sampleHold
  if isTick k then (sampled.testCue k).rampTick (sampled.fires k) else sampled.testCue k

/-- R46, R65, R82, R108: the samples of computation `k`, from the state `s` its beginning left; `outs` are the
feeds' out values. -/
def State.runSamples (k : FrameNo) (s : State) : State :=
  let p := s.runPickups k
  State.recordPeaks (p.feedOuts k)
    (State.runCores p.fadeWeight (p.injection k) (State.advanceCheck (p.countFeedClips (p.feedClips k))))

/-- R32, R34: the out values of the feeds in computation `k`, from the state its beginning left. -/
def State.outsOf (k : FrameNo) (s : State) : Bank 32 Sample := (s.runPickups k).feedOuts k

/-- R18: computation `k`: the state after it. -/
def State.compute (k : FrameNo) (s : State) : State :=
  let b := s.beginComputation k
  if isTick k then (b.runSamples k).tickGuard (levelMoved s.level b.level) else b.runSamples k

/-- R18, R34: the feed values computation `k` gives to the frame that paced it. -/
def State.computeOuts (k : FrameNo) (s : State) : Bank 32 Sample := (s.beginComputation k).outsOf k

end Sys2Proof.Machine
end

