-- ==== Sys2Proof/Machine/LaneOps.lean ====
section
/-!
DEFINITION. The Lane Controller: the read record and lost segments (R156), reassembly (R158 to R160), and the
part's own turns (R163 to R165).
-/

namespace Sys2Proof.Machine

/-- R156: the address whose turn frame `f` is. -/
def turnOf (f : FrameNo) : Fin 16 := ⟨f.toNat % 16, Nat.mod_lt _ (by decide)⟩

/-- R158: the context of source `i` set. -/
def State.setContext (i : Fin 16) (a : Option Assembly) (s : State) : State :=
  { s with lane := { s.lane with contexts := s.lane.contexts.set i a } }

/-- R159: a message of source `i` is broken: its octets discarded, counted, LANE_BROKEN. -/
def State.breakMessage (i : Fin 16) (s : State) : State :=
  State.latch .laneBroken
    { s with
      lane := { s.lane with contexts := s.lane.contexts.set i none }
      events := { s.events with broken := countUp top32 s.events.broken 1 } }

/-- R160: a complete message of `segments` segments is judged for length, check and kind. -/
def State.completeMessage (i : Fin 16) (octets : List Byte) (segments declared : Nat) (broadcast : Bool)
    (s : State) : State :=
  if segments = segmentsNeeded declared ∧ checkMatches octets (declared + 5) = true then
    if at8 octets 1 < 128 then
      s.offer i (octets.getD 1 0) (octets.getD 2 0) ((octets.drop 5).take declared) broadcast
    else s
  else
    State.latch .messageBad
      { s with events := { s.events with badMessages := countUp top32 s.events.badMessages 1 } }

/-- R157, R158: the destination octet names the part or all nodes. -/
def State.addressed (dest : Byte) (s : State) : Bool :=
  dest == 255 || dest == octet s.chain.address.val

/-- R158: an IDLE context of source `i` takes the segment of frame `f`. -/
def State.idleTakes (i : Fin 16) (f : FrameNo) (seg : Segment) (s : State) : State :=
  let p := seg.payload.items
  match markOf seg.mark with
  | .only =>
    if s.addressed (p.getD 0 0) then s.completeMessage i p 1 (at16 p 3) (p.getD 0 0 == 255) else s
  | .first =>
    if s.addressed (p.getD 0 0) then
      if 441 < at16 p 3 then s.breakMessage i
      else s.setContext i (some ⟨p, 1, at16 p 3, p.getD 0 0 == 255, f + 16⟩)
    else s
  | .empty => s
  | .more => s
  | .last => s
  | .bad => s

/-- R159: an ASSEMBLING context `a` of source `i` takes the segment of frame `f`. A segment that breaks the
message is judged again by the IDLE context. -/
def State.assemblyTakes (i : Fin 16) (a : Assembly) (f : FrameNo) (seg : Segment) (s : State) : State :=
  if f ≠ a.expected then (s.breakMessage i).idleTakes i f seg
  else match markOf seg.mark with
    | .more =>
      if a.segments < segmentsNeeded a.declared ∧ a.segments < 64 then
        s.setContext i (some { a with
          octets := a.octets ++ seg.payload.items
          segments := a.segments + 1
          expected := f + 16 })
      else (s.breakMessage i).idleTakes i f seg
    | .last =>
      (s.setContext i none).completeMessage i (a.octets ++ seg.payload.items) (a.segments + 1) a.declared
        a.broadcast
    | .empty => (s.breakMessage i).idleTakes i f seg
    | .only => (s.breakMessage i).idleTakes i f seg
    | .first => (s.breakMessage i).idleTakes i f seg
    | .bad => (s.breakMessage i).idleTakes i f seg

/-- R156: the segment of frame `f` goes to the context of its source; the part's own is not reassembled. -/
def State.takeSegment (f : FrameNo) (seg : Segment) (s : State) : State :=
  if turnOf f = s.chain.address then s
  else match s.lane.contexts.get (turnOf f) with
    | none => s.idleTakes (turnOf f) f seg
    | some a => s.assemblyTakes (turnOf f) a f seg

/-- R156, R159: the segment of frame `f` is lost for its source: a message in assembly is broken, whatever
frame it expects (log 13); an IDLE context ignores it. -/
def State.loseSegment (f : FrameNo) (s : State) : State :=
  if turnOf f = s.chain.address then s
  else match s.lane.contexts.get (turnOf f) with
    | none => s
    | some _ => s.breakMessage (turnOf f)

/-- R156: the read record entry of frame `f` set. -/
def State.setRecord (f : FrameNo) (read : Bool) (s : State) : State :=
  { s with lane := { s.lane with record := s.lane.record.set (turnOf f) (some ⟨f, read⟩) } }

/-- R156: good return frame `f` is read: READ and its segment taken, unless its loss was taken before. -/
def State.readSegment (f : FrameNo) (seg : Segment) (s : State) : State :=
  if s.lane.record.get (turnOf f) = some ⟨f, false⟩ then s
  else (s.setRecord f true).takeSegment f seg

/-- R156: outbound frame `f + 8` is handled: frame `f` is LOST unless it was read. -/
def State.takeLoss (f : FrameNo) (s : State) : State :=
  if s.lane.record.get (turnOf f) = some ⟨f, true⟩ then s
  else (s.setRecord f false).loseSegment f

/-! ## Own turns -/

/-- R163: frame `n` is an own turn. -/
def State.ownTurn (n : FrameNo) (s : State) : Bool := turnOf n == s.chain.address

/-- R164: an own turn passes without the part writing into it: a reply in transmission starts again. -/
def State.missTurn (n : FrameNo) (s : State) : State :=
  if s.ownTurn n then { s with lane := { s.lane with sent := 0 } } else s

/-- R163: the oldest READY entry becomes FREE. -/
def State.dropReply (s : State) : State :=
  { s with lane := { s.lane with ready := s.lane.ready.drop 1, sent := 0 } }

/-- R165: the segment test: in the own turn the segment arrives with a mark other than EMPTY. -/
def State.segmentClash (f : Frame) (s : State) : Bool :=
  s.ownTurn f.number && markOf f.segment.mark != .empty

/-- R165, R169: the roll-call test: the own octet arrives with PRESENT set. -/
def State.rollClash (f : Frame) (s : State) : Bool := (f.roll.get s.chain.address).getLsbD 7

/-- R165: a reply in transmission, or about to start in this own turn, is abandoned. -/
def State.abandonReply (n : FrameNo) (s : State) : State :=
  if 0 < s.lane.sent ∨ s.ownTurn n = true then s.dropReply else s

/-- R163: one segment of the oldest READY reply is written in an own turn: the entry becomes FREE after its
last segment. Nothing READY: nothing changes. -/
def State.advanceReply (s : State) : State :=
  match s.lane.ready with
  | [] => s
  | r :: _ =>
    if s.lane.sent + 1 ≥ r.segments then s.dropReply
    else { s with lane := { s.lane with sent := s.lane.sent + 1 } }

end Sys2Proof.Machine
end

