-- ==== Sys2Proof/Machine/ChainOps.lean ====
section
/-!
DEFINITION. The Chain Interface (chapter 1): port judgement, turnaround and discard mark, the outbound writes,
the return pass, and one handled outbound frame.
-/

namespace Sys2Proof.Machine

/-! ## Ports (R5) -/

/-- R5: a good frame at a receive side with threshold `g`. -/
def PortRx.judgeGood (g : Nat) (p : PortRx) : PortRx :=
  match p.state with
  | .down => p
  | .seeking => ⟨if g ≤ min 255 (p.good + 1) then .locked else .seeking, min 255 (p.good + 1), 0⟩
  | .locked => ⟨.locked, min 255 (p.good + 1), 0⟩

/-- R5: a bad frame at a receive side with threshold `b`. -/
def PortRx.judgeBad (b : Nat) (p : PortRx) : PortRx :=
  match p.state with
  | .down => p
  | .seeking => ⟨.seeking, 0, min 64 (p.bad + 1)⟩
  | .locked => if b ≤ min 64 (p.bad + 1) then ⟨.seeking, 0, 0⟩ else ⟨.locked, 0, min 64 (p.bad + 1)⟩

/-- R4, R5: line activity appears at Port U: a DOWN port enters SEEKING, and its first period is yet to begin. -/
def Chain.appearU (c : Chain) : Chain :=
  if c.portU.state = .down then { c with portU := ⟨.seeking, 0, 0⟩, syncU := false } else c

/-- R4, R5: line activity appears at Port D. -/
def Chain.appearD (c : Chain) : Chain :=
  if c.portD.state = .down then { c with portD := ⟨.seeking, 0, 0⟩, syncD := false } else c

/-- R4: Port U has begun its frame periods: a sync pattern has been found since line activity appeared. -/
def Chain.periodsU (c : Chain) : Bool := c.portU.state != .down && c.syncU

/-- R4: Port D has begun its frame periods. -/
def Chain.periodsD (c : Chain) : Bool := c.portD.state != .down && c.syncD

/-- R4: a sync pattern found at Port U: its frame periods begin, or go on. -/
def State.findSyncU (s : State) : State := { s with chain := { s.chain with syncU := true } }

/-- R4: a sync pattern found at Port D. -/
def State.findSyncD (s : State) : State := { s with chain := { s.chain with syncD := true } }

/-- R7, R188: a bad frame at Port U is latched and counted. -/
def State.countBadU (s : State) : State :=
  State.latch .badFrame { s with events := { s.events with badU := countUp top32 s.events.badU 1 } }

/-- R7, R188: a bad frame at Port D is latched and counted. -/
def State.countBadD (s : State) : State :=
  State.latch .badFrame { s with events := { s.events with badD := countUp top32 s.events.badD 1 } }

/-! ## Turnaround (R11, R13) -/

/-- R11: the turnaround state of the table. -/
def turnaroundOf (leader : Bool) (portU portD : PortState) : Turnaround :=
  if leader || portU == .locked then (if portD = .locked then .through else .chainEnd) else .detached

/-- R13: the number of the next outbound frame: the leader's counter, a member's expected number. -/
def Chain.nextNumber (c : Chain) : FrameNo := if c.leader then c.counter else c.expected

/-- R11, R13, R14: the turnaround state follows the ports. END to THROUGH sets the discard mark with the next
number as t; a change to END or DETACHED clears it. -/
def Chain.settleTurnaround (c : Chain) : Chain :=
  let new := turnaroundOf c.leader c.portU.state c.portD.state
  if new = c.turnaround then c
  else if c.turnaround = .chainEnd ∧ new = .through then
    { c with turnaround := new, discard := true, switchNo := c.nextNumber, switchOpen := true,
             sinceSwitch := 0 }
  else if new = .through then { c with turnaround := new }
  else { c with turnaround := new, discard := false, switchOpen := false }

/-- R11: a change between END and THROUGH latches TOPOLOGY. -/
def topologyChanged (old new : Turnaround) : Bool :=
  (old == .chainEnd && new == .through) || (old == .through && new == .chainEnd)

/-- R11: the turnaround state settled, with TOPOLOGY. -/
def State.settleTurnaround (s : State) : State :=
  State.latchIf (topologyChanged s.chain.turnaround s.chain.settleTurnaround.turnaround) .topology
    { s with chain := s.chain.settleTurnaround }

/-- R13: outbound frame `n` is handled: it settles t when it is the first after the switch, whether or not a
return frame has cleared the mark before it, and it counts toward the 16 that clear a mark that is set. -/
def Chain.countHandled (n : FrameNo) (c : Chain) : Chain :=
  { c with
    switchNo := if c.switchOpen then n else c.switchNo
    switchOpen := false
    sinceSwitch := if c.discard then min 16 (c.sinceSwitch + 1) else c.sinceSwitch
    discard := c.discard && decide (c.sinceSwitch + 1 < 16) }

/-- R13: return frame `n` lies before the switch. -/
def Chain.beforeSwitch (n : FrameNo) (c : Chain) : Bool :=
  c.discard && decide (2147483648 ≤ (n - c.switchNo).toNat)

/-! ## Port D (R5, R11, R14) -/

/-- The Port D receive side set, with CHAIN_D when it leaves LOCKED, and the turnaround state settled. -/
def State.setPortD (p : PortRx) (s : State) : State :=
  State.settleTurnaround
    (State.latchIf (s.chain.portD.state == .locked && p.state != .locked) .chainD
      { s with chain := { s.chain with portD := p } })

/-! ## Port U (R5, R15, R17) -/

/-- R15: a member's Port U leaves LOCKED: CHAIN_U, and what the loss brings. -/
def State.unlockU (p : PortRx) (s : State) : State :=
  State.loseUpstream (State.latch .chainU { s with chain := { s.chain with portU := p } })

/-- R17: a member's Port U returns to LOCKED: END or THROUGH by Port D, ISOLATED becomes RUNNING. -/
def State.lockU (p : PortRx) (s : State) : State :=
  { s with
    chain := { s.chain with
      portU := p
      turnaround := turnaroundOf s.chain.leader .locked s.chain.portD.state }
    hold := { s.hold with
      condition := if s.hold.condition = .isolated then .running else s.hold.condition } }

/-! ## The return pass (R10) -/

/-- R40, R41: the pickup samples of return frame `f` fill their buffer entry. -/
def State.fillBuffer (f : Frame) (s : State) : State :=
  { s with
    buffer := s.buffer.set (turnOf f.number)
      ⟨f.number, s.pickups.map fun p =>
        match p.slot with
        | some x => f.slots.get x
        | none => 0, true⟩ }

/-- R191: the checker takes its slot's word from return frame `f`. -/
def State.checkPattern (f : Frame) (s : State) : State :=
  let word := f.slots.get s.pattern.chkSlot
  let err := s.pattern.errs f.number word
  let words := countUp top32 s.events.patWords 1
  let counted : State :=
    if err then
      { s with
        events := { s.events with
          patWords := words
          patBits := countUp top40 s.events.patBits
            (bitsDiffering word (s.pattern.predicted f.number)) } }
    else s
  State.latchIf (s.pattern.losesSync f.number word) .patternSyncLost
    (State.latchIf (err && s.events.patWords != words && words == s.pattern.threshold) .patternAlarm
      { counted with pattern := s.pattern.take f.number word })

/-- R10, R152: the part reads return frame `f`: pickups (not in QUIET), lane segment, checker's slot. -/
def State.readReturn (f : Frame) (s : State) : State :=
  let filled := if s.hold.condition = .running then s.fillBuffer f else s
  (filled.readSegment f.number f.segment).checkPattern f

/-! ## Outbound writes (R9, R165) -/

/-- R9, R30: the slots with each feed's value written into the slot it holds. -/
def writeSlots (feeds : Bank 32 Feed) (outs : Bank 32 Sample) (slots : Bank 128 Sample) : Bank 128 Sample :=
  (List.finRange 32).foldl
    (fun acc f =>
      match (feeds.get f).slot with
      | some x => acc.set x (outs.get f)
      | none => acc) slots

/-- R190: the pattern word written into the generator's slot. -/
def writePattern (p : Pattern) (word : Sample) (slots : Bank 128 Sample) : Bank 128 Sample :=
  if p.genOn then slots.set p.genSlot word else slots

/-- R165: either clash test finds writing by another node. -/
def State.clashes (f : Frame) (s : State) : Bool := s.segmentClash f || s.rollClash f

/-- R165: the clash tests of frame `f`: ADDRESS_CLASH, and the reply abandoned. -/
def State.noteClash (f : Frame) (s : State) : State :=
  if s.clashes f then (s.latch .addressClash).abandonReply f.number else s

/-- R163, R165: the lane segment of frame `f` as the part leaves it: its reply's next segment in an own turn
without a clash, else as it arrived.
DESIGN CHOICE (log 34), unsafe: a reply that becomes READY after a node reset that cut another, and before the next own
turn, starts in that turn, as R163 says, where R155 and R164 say that the turn carries EMPTY. -/
def State.segmentWritten (f : Frame) (s : State) : Segment :=
  if s.ownTurn f.number && !s.clashes f then
    match s.lane.ready with
    | r :: _ => r.segment s.lane.sent
    | [] => f.segment
  else f.segment

/-- R9: the outbound frame as the part writes it; `outs` are its feed values and `word` its pattern word. -/
def State.writtenFrame (f : Frame) (outs : Bank 32 Sample) (word : Sample) (s : State) : Frame :=
  let t := s.noteClash f
  { f with
    slots := writePattern s.pattern word (writeSlots s.level.feeds outs f.slots)
    roll := if s.rollClash f then f.roll else f.roll.set s.chain.address t.rollCall
    segment := s.segmentWritten f }

/-- R163, R165: the state after the outbound writes of frame `f`. -/
def State.afterWrites (f : Frame) (s : State) : State :=
  if s.clashes f then s.noteClash f
  else if s.ownTurn f.number then s.advanceReply
  else s

/-! ## One handled outbound frame (R9, R12, R18) -/

/-- The octets each transmit side sends in a frame period. -/
def State.sendD (o : Option (List Byte)) (s : State) : State := { s with chain := { s.chain with txD := o } }

/-- R1, R12: what a member sends on Port U; the leader's Port U sends nothing. -/
def State.sendU (o : Option (List Byte)) (s : State) : State :=
  { s with chain := { s.chain with txU := if s.chain.leader then none else o } }

/-- R190: the generator forms its word. -/
def State.generate (s : State) : State := { s with pattern := s.pattern.generate }

/-- R13, R156: outbound frame `n` is handled: it is counted, and the loss of frame `n - 8` is taken. -/
def State.countFrame (n : FrameNo) (s : State) : State :=
  State.takeLoss (n - 8) { s with chain := s.chain.countHandled n }

/-- R156, R18, R190: what the frame period of outbound frame `n` brings before anything is written: the
handled count, the loss of frame `n - 8`, the computation, the generator's word. -/
def State.paceFrame (n : FrameNo) (s : State) : State :=
  State.generate
    (if (s.countFrame n).computes then (s.countFrame n).compute (n - 8) else s.countFrame n)

/-- R9, R152: the feed values for outbound frame `n`: those of its computation, or 0 when none runs. -/
def State.paceOuts (n : FrameNo) (s : State) : Bank 32 Sample :=
  if (s.countFrame n).computes then (s.countFrame n).computeOuts (n - 8) else Bank.fill 32 0

/-- R9, R12: good outbound frame `f` is handled. -/
def State.handleGood (f : Frame) (s : State) : State :=
  let paced := s.paceFrame f.number
  let written := paced.writtenFrame f (s.paceOuts f.number) (streamWord s.pattern.history)
  let sent := (paced.afterWrites f).sendD (some written.octets)
  if sent.chain.turnaround = .chainEnd then
    State.readReturn (written.turnedBy s.chain.address)
      (sent.sendU (some (written.turnedBy s.chain.address).octets))
  else sent

/-- R7, R8, R12, R164: a bad outbound frame at a LOCKED Port U is handled as frame `n`; `octets` is none when
the sync pattern is missing. -/
def State.handleBad (n : FrameNo) (octets : Option (List Byte)) (s : State) : State :=
  let sent := ((s.paceFrame n).missTurn n).sendD octets
  if sent.chain.turnaround = .chainEnd then sent.sendU octets else sent

/-! ## Frames at Port U of a member (R5, R8, R16) -/

/-- R8: a member's expected number set. -/
def State.expect (n : FrameNo) (s : State) : State := { s with chain := { s.chain with expected := n } }

/-- R5, R8, R16, R17: good outbound frame `f`, received as `octets`, at a member's Port U that is not DOWN.
DESIGN CHOICE (log 31), unsafe: a jump past the number of an own turn leaves a reply in transmission as it stands,
so that it goes on with its next segment; R164 speaks of a turn that R9 keeps unwritten alone. -/
def State.goodOutbound (f : Frame) (octets : List Byte) (s : State) : State :=
  let p := s.chain.portU.judgeGood s.chain.lockG
  if s.chain.portU.state = .locked then
    State.expect (f.number + 1)
      (State.handleGood f
        (State.latchIf (f.number != s.chain.expected) .frameJump
          { s with chain := { s.chain with portU := p } }))
  else if p.state = .locked then State.expect (f.number + 1) ((s.lockU p).handleGood f)
  else State.expect (f.number + 1) (State.sendD (some octets) { s with chain := { s.chain with portU := p } })

/-- R5, R7, R8, R15, R16: a bad frame period at a member's Port U that is not DOWN; `octets` is none when the
sync pattern is missing. -/
def State.badOutbound (octets : Option (List Byte)) (s : State) : State :=
  let p := s.chain.portU.judgeBad s.chain.lockB
  let counted := s.countBadU
  if s.chain.portU.state = .locked then
    if p.state = .locked then
      State.expect (s.chain.expected + 1)
        (State.handleBad s.chain.expected octets
          { counted with chain := { counted.chain with portU := p } })
    else (counted.unlockU p).sendD octets
  else State.sendD octets { counted with chain := { counted.chain with portU := p } }

/-! ## Frames at Port D (R5, R10, R12, R13, R16) -/

/-- R10, R12, R13, R16: what becomes of good return frame `f`, once Port D is judged. -/
def State.passGoodReturn (f : Frame) (octets : List Byte) (s : State) : State :=
  match s.chain.turnaround with
  | .detached => s.sendU (some octets)
  | .chainEnd => s
  | .through =>
    if s.chain.beforeSwitch f.number then s.sendU none
    else
      State.sendU (some octets)
        (State.readReturn f { s with chain := { s.chain with discard := false } })

/-- R7, R12, R16: what becomes of a bad return frame period, once Port D is judged. -/
def State.passBadReturn (octets : Option (List Byte)) (s : State) : State :=
  match s.chain.turnaround with
  | .detached => s.sendU octets
  | .chainEnd => s
  | .through => s.sendU octets

/-- A good return frame at a Port D that is not DOWN. -/
def State.goodReturn (f : Frame) (octets : List Byte) (s : State) : State :=
  (s.setPortD (s.chain.portD.judgeGood s.chain.lockG)).passGoodReturn f octets

/-- A bad frame period at a Port D that is not DOWN. -/
def State.badReturn (octets : Option (List Byte)) (s : State) : State :=
  (s.countBadD.setPortD (s.chain.portD.judgeBad s.chain.lockB)).passBadReturn octets

/-- The level other parties give HOLD_N, as the commands that pace a computation carry it (log 5). -/
def State.setHoldPulled (b : Bool) (s : State) : State := { s with pins := { s.pins with holdPulled := b } }

end Sys2Proof.Machine
end

