-- ==== Sys2Proof/Machine/Frames.lean ====
section
/-!
DEFINITION. The rows of the pins, the lines and the frames (chapters 1 and 9).
-/

namespace Sys2Proof.Machine

/-- What a row answers: the block never stops. -/
abbrev Answer := Host.Outcome State Fault Refusal

/-- R154: while RST_N is low a row has no effect. -/
def State.unlessHeld (s : State) (t : State) : State := if s.pins.rstLow then s else t

/-- POWER_ON_RESET (R1, R154): RST_N rises, LEAD and the address straps are read, every block takes its
power-on values. -/
def execPowerOnReset (lead : Bool) (address : Fin 16) (s : State) : Answer := .next (s.restart lead address)

/-- POWER_ON_RESET_HELD (R154): RST_N goes low: nothing is transmitted, HOLD_N is not driven, no frame is
taken. What the blocks hold meanwhile is not seen (log 7). -/
def execPowerOnResetHeld (s : State) : Answer :=
  .next { s with
    pins := { s.pins with rstLow := true }
    chain := { s.chain with txU := none, txD := none } }

/-- LINE_ACTIVITY_APPEARS (R4, R5): a DOWN receive side enters SEEKING with both runs 0, and its first period
begins at the first sync pattern found. The leader does not evaluate its Port U (R1). -/
def execLineActivityAppears (port : Port) (s : State) : Answer :=
  .next (s.unlessHeld
    (match port with
      | .U => if s.chain.leader then s else { s with chain := s.chain.appearU }
      | .D => { s with chain := s.chain.appearD }))

/-- R5: Port U of a member loses line activity. -/
def State.loseU (s : State) : State :=
  if s.chain.leader then s
  else match s.chain.portU.state with
    | .down => s
    | .seeking => { s with chain := { s.chain with portU := PortRx.down } }
    | .locked => s.unlockU PortRx.down

/-- R5, R14: Port D loses line activity. -/
def State.loseD (s : State) : State :=
  match s.chain.portD.state with
  | .down => s
  | .seeking => s.setPortD PortRx.down
  | .locked => s.setPortD PortRx.down

/-- LINE_ACTIVITY_LOST (R5): SEEKING or LOCKED drops to DOWN at once. -/
def execLineActivityLost (port : Port) (s : State) : Answer :=
  .next (s.unlessHeld
    (match port with
      | .U => s.loseU
      | .D => s.loseD))

/-- R2: the leader originates a frame from its counter. -/
def State.originate (s : State) : State :=
  let t := s.handleGood (Frame.originate s.chain.counter)
  { t with chain := { t.chain with counter := s.chain.counter + 1 } }

/-- FRAME_ORIGINATE (R2): one frame of the leader; a member originates nothing (R1, log 6). -/
def execFrameOriginate (holdPulled : Bool) (s : State) : Answer :=
  let p := s.setHoldPulled holdPulled
  .next (p.unlessHeld (if p.chain.leader then p.originate else p))

/-- OUTBOUND_FRAME_RECEIVE (R4, R8): one frame period at a member's Port U that is not DOWN. -/
def execOutboundFrameReceive (octets : List Byte) (holdPulled : Bool) (s : State) : Answer :=
  let p := s.setHoldPulled holdPulled
  .next (p.unlessHeld
    (if p.chain.leader || p.chain.portU.state == .down then p
    else match goodFrame? false octets with
      | some f => p.findSyncU.goodOutbound f octets
      | none => p.findSyncU.badOutbound (some octets)))

/-- SYNC_MISSING_PERIOD (R4, R7): a period without the sync pattern is one bad frame, with nothing to
forward. Before the first sync pattern since line activity appeared no period has begun, and none is missed
(R4, log 6). -/
def execSyncMissingPeriod (port : Port) (holdPulled : Bool) (s : State) : Answer :=
  let p := s.setHoldPulled holdPulled
  .next (p.unlessHeld
    (match port with
      | .U => if p.chain.leader || !p.chain.periodsU then p else p.badOutbound none
      | .D => if p.chain.periodsD then p.badReturn none else p))

/-- RETURN_FRAME_RECEIVE (R4, R10): one frame period at a Port D that is not DOWN. -/
def execReturnFrameReceive (octets : List Byte) (s : State) : Answer :=
  .next (s.unlessHeld
    (if s.chain.portD.state == .down then s
    else match goodFrame? true octets with
      | some f => s.findSyncD.goodReturn f octets
      | none => s.findSyncD.badReturn (some octets)))

/-- DISCARD_MARK_EXPIRE (R13): the sixteenth outbound frame since the switch has been handled and the mark is
cleared. The row runs that end of the mark alone (log 4); `Chain.countHandled` makes it inside a handled
frame. -/
def execDiscardMarkExpire (s : State) : Answer :=
  .next (s.unlessHeld
    (if s.chain.discard = true ∧ s.chain.sinceSwitch ≥ 15 then
      { s with chain := { s.chain with discard := false, sinceSwitch := 16 } }
    else s))

end Sys2Proof.Machine
end

