-- ==== Sys2Proof/Machine/Blocks.lean ====
section
/-!
DEFINITION. The rows of the events inside the blocks: CORE_SHAPED, CHECK_PASS, CHECK_FAIL, CUE_FIRE,
GATE_HANG_EXPIRE, CROSSFADE_END, QUIET_HOLD_EXPIRE and RECOVERY_STEP. The part makes each of them inside a
computation (`State.compute` runs them with the frame commands). The row runs the one event alone, when the
block stands one step before it; else the event does not occur and nothing changes (log 4). No computation
runs in ISOLATED or QUIET (R18), so none occurs there.
-/

namespace Sys2Proof.Machine

/-- An event of a computation: it occurs only where computations run (R18). -/
def State.whileComputing (s : State) (t : State) : State := if s.computes then t else s

/-- CORE_SHAPED (R80): the eighth clearing computation ends and the core becomes SHAPED. -/
def execCoreShaped (core : Fin 4) (s : State) : Answer :=
  .next (s.whileComputing { s with cores := s.cores.modify core RevCore.shapedEvent })

/-- CHECK_PASS (R110): the running check reaches the tap count with all taps passing. -/
def execCheckPass (s : State) : Answer :=
  .next (s.whileComputing
    (match s.check with
      | none => s
      | some c => if examine s.cores (s.scenes.get c.scene) c.next = .passed then s.endCheckPass c else s))

/-- CHECK_FAIL (R110): the running check reaches a failing tap. -/
def execCheckFail (s : State) : Answer :=
  .next (s.whileComputing
    (match s.check with
      | none => s
      | some c =>
        match examine s.cores (s.scenes.get c.scene) c.next with
        | .failed i r => s.endCheckFail c i r
        | .passed => s
        | .goesOn _ => s))

/-- CUE_FIRE (R121, R122): the ARMED cue is due in computation `k` and fires. -/
def execCueFire (k : FrameNo) (s : State) : Answer :=
  .next (s.whileComputing (if s.fires k then s.fire k else s))

/-- GATE_HANG_EXPIRE (R49, R50): a HANGING gate's hang count reaches 0, the gate becomes CLOSED and its level
moves toward the floor code. -/
def execGateHangExpire (pickup : Fin 48) (s : State) : Answer :=
  .next (s.whileComputing { s with pickups := s.pickups.modify pickup Pickup.hangExpire })

/-- CROSSFADE_END (R125): the weight reaches 8192 and the crossfade ends. -/
def execCrossfadeEnd (s : State) : Answer :=
  .next (s.whileComputing
    (if s.cue.state.fades = true ∧ 8192 ≤ s.cue.weight + s.cue.stepSize then s.endFade else s))

/-- QUIET_HOLD_EXPIRE (R139): a CUT feed's hold timer reaches 0; RECOVER with the recovery count loaded. -/
def execQuietHoldExpire (feed : Fin 32) (s : State) : Answer :=
  .next (s.whileComputing
    { s with
      guards := s.guards.modify feed fun g =>
        if g.enable = true ∧ g.state = .cut ∧ g.timer ≤ 1 then g.holdExpired else g })

/-- RECOVERY_STEP (R140): a RECOVER feed's recovery count reaches 0; the trim falls by 1, WATCH at 0. -/
def execRecoveryStep (feed : Fin 32) (s : State) : Answer :=
  .next (s.whileComputing
    { s with
      guards := s.guards.modify feed fun g =>
        if g.enable = true ∧ g.state = .recover ∧ g.count ≤ 1 then g.recoveryStep else g })

end Sys2Proof.Machine
end

