-- ==== Sys2Proof/Machine/Cues.lean ====
section
/-!
DEFINITION. The cue, guard and hold commands (R185; R116 to R120, R131, R133, R134, R142, R148, R149).
-/

namespace Sys2Proof.Machine

/-! ## CUE, CUE_CANCEL, CUE_READ -/

/-- R100, R118, R120: the previous target, if CUED, becomes READY. -/
def releaseTarget (target : Option (Fin 16)) (scenes : Bank 16 Scene) : Bank 16 Scene :=
  match target with
  | none => scenes
  | some i => scenes.modify i fun sc => if sc.state = .cued then { sc with state := .ready } else sc

/-- R100: an armed READY scene becomes CUED; an OUTGOING or CUED one stays. -/
def armScene (i : Fin 16) (scenes : Bank 16 Scene) : Bank 16 Scene :=
  scenes.modify i fun sc => if sc.state = .ready then { sc with state := .cued } else sc

/-- R91, R117: a cue armed for scene `i`: scene state, Cue Unit, and the armed targets of every core. -/
def State.armCue (i : Fin 16) (x : FrameNo) (immediate : Bool) (s : State) : State :=
  { s with
    scenes := armScene i s.scenes
    cue := s.cue.arm i x immediate
    cores := s.cores.mapIdx fun c core => core.arm (s.scenes.get i).header c }

/-- R117, R118: scene `i` armed, or the armed cue replaced by it, with CUE_REPLACED. A cue for another scene
releases the old target first. -/
def State.takeCue (i : Fin 16) (x : FrameNo) (immediate : Bool) (s : State) : State :=
  if s.cue.state.hasCue then
    State.latch .cueReplaced
      (State.armCue i x immediate
        (if s.cue.target = some i then s else { s with scenes := releaseTarget s.cue.target s.scenes }))
  else s.armCue i x immediate

/-- R116 steps 3 and 4: a CUE is judged and taken. -/
def judgeCue (p : List Byte) (s : State) : Verdict :=
  match index? 16 (at8 p 0) with
  | none => .refused .badIndex
  | some i =>
    match (s.scenes.get i).state with
    | .empty => .refused .notReady
    | .editing => .refused .notReady
    | .checking => .refused .notReady
    | .active => applied s
    | .ready => applied (s.takeCue i (at32 p 1) ((p.getD 5 0).getLsbD 0))
    | .cued => applied (s.takeCue i (at32 p 1) ((p.getD 5 0).getLsbD 0))
    | .outgoing => applied (s.takeCue i (at32 p 1) ((p.getD 5 0).getLsbD 0))

/-- CUE (R116 to R119). -/
def execCue (t : Taking) (s : State) : Answer := .next (s.laneCommand 40 false (judged false 6 judgeCue) t)

/-- R91, R120: the armed cue is cancelled; in IDLE and FADING there is none. -/
def State.cancelCue (s : State) : State :=
  if s.cue.state.hasCue then
    { s with
      scenes := releaseTarget s.cue.target s.scenes
      cue := s.cue.cancel
      cores := s.cores.map RevCore.disarm }
  else s

/-- CUE_CANCEL (R120). -/
def execCueCancel (t : Taking) (s : State) : Answer :=
  .next (s.laneCommand 41 false (judged false 0 fun _ s => applied s.cancelCue) t)

/-- R131: the armed target is the OUTGOING scene. -/
def State.targetOutgoing (s : State) : Bool :=
  match s.cue.target with
  | some i => (s.scenes.get i).state == .outgoing
  | none => false

/-- R131, R174: the data of CUE_READ's reply. -/
def State.cueData (s : State) : List Byte :=
  [octet (cueStateCode s.cue.state), sceneOctet s.cue.target, flagOctet s.targetOutgoing] ++
    octets4 s.cue.frameX.toNat ++
    [flagOctet s.cue.immediate, sceneOctet (s.sceneIn .active), sceneOctet (s.sceneIn .outgoing)] ++
    octets2 s.cue.weight ++ octets2 s.cue.stepSize ++ [flagOctet s.cue.silence] ++
    octets2 (s.cue.wanderActive.getD 0) ++ octets2 (s.cue.wanderOutgoing.getD 0)

/-- CUE_READ (R131). -/
def execCueRead (t : Taking) (s : State) : Answer :=
  .next (s.laneCommand 42 true (judged false 0 fun _ s => answered s s.cueData) t)

/-! ## GUARD_SET, GUARD_READ -/

/-- R133, R185: the parameters a GUARD_SET carries, clamped. -/
def guardParams (p : List Byte) : GuardParams where
  enable := onOff (at8 p 4)
  floorCode := clampCode (at16 p 5)
  rise := clamp 2 64 (at8 p 7)
  cutStep := clamp 8 128 (at8 p 8)
  limit := min 512 (at16 p 9)
  quietHold := clamp 100 65535 (at16 p 11)
  interval := clamp 1 255 (at8 p 13)
  escalate := onOff (at8 p 14)

/-- R133, R134, R141: the masked feeds take the parameters; HOWL_LIMIT is latched when its condition begins
(log 17). -/
def State.setGuards (mask : BitVec 32) (q : GuardParams) (s : State) : State :=
  let t : State :=
    { s with guards := s.guards.mapIdx fun f g => if maskBit mask f.val then g.configure q else g }
  State.latchIf (!s.liveHowlLimit && t.liveHowlLimit) .howlLimit t

/-- GUARD_SET (R133, R134). -/
def execGuardSet (t : Taking) (s : State) : Answer :=
  .next (s.laneCommand 44 false
    (judged false 15 fun p s => applied (s.setGuards (at32 p 0) (guardParams p))) t)

/-- R142, R174: the data of GUARD_READ's reply for feed `f`. -/
def guardData (f : Fin 32) (g : Guard) : List Byte :=
  [octet f.val, flagOctet g.enable] ++ octets2 g.floorCode ++ [octet g.rise, octet g.cutStep] ++
    octets2 g.limit ++ octets2 g.quietHold ++
    [octet g.interval, flagOctet g.escalate, octet (guardStateCode g.state)] ++ octets2 g.trim ++
    [octet g.run] ++ octets3 g.prevPeak ++ [octet g.settle] ++ octets2 g.timer ++ [octet g.count]

/-- R142: a GUARD_READ is judged and answered. -/
def judgeGuardRead (p : List Byte) (s : State) : Verdict :=
  match index? 32 (at8 p 0) with
  | some f => answered s (guardData f (s.guards.get f))
  | none => .refused .badIndex

/-- GUARD_READ (R142). -/
def execGuardRead (t : Taking) (s : State) : Answer :=
  .next (s.laneCommand 45 true (judged false 1 judgeGuardRead) t)

/-! ## HOLD, RESUME -/

/-- R148: MESSAGE is added. -/
def Hold.addMessage (h : Hold) : Hold := { h with message := true }

/-- HOLD (R148). -/
def execHold (t : Taking) (s : State) : Answer :=
  .next (s.laneCommand 48 false (judged false 0 fun _ s => applied { s with hold := s.hold.addMessage }) t)

/-- R149: MESSAGE, GUARD and START are removed, and LINK in RUNNING. -/
def Hold.resume (h : Hold) : Hold :=
  { h with
    message := false
    guard := false
    start := false
    link := if h.condition = .running then false else h.link }

/-- RESUME (R149). -/
def execResume (t : Taking) (s : State) : Answer :=
  .next (s.laneCommand 49 false (judged false 0 fun _ s => applied { s with hold := s.hold.resume }) t)

end Sys2Proof.Machine
end

