-- ==== Sys2Proof/Machine/Levels.lean ====
section
/-!
DEFINITION. The pickup, feed and group commands (R183; R26, R28, R30, R39, R178).
-/

namespace Sys2Proof.Machine

/-! ## PICKUP_SET, PICKUP_READ -/

/-- R39, R176: a PICKUP_SET is judged for its pickup and its slot, and applied. -/
def judgePickupSet (p : List Byte) (s : State) : Verdict :=
  match index? 48 (at8 p 0), slotOrNone? (at8 p 1) with
  | some i, some slot =>
    applied { s with
      pickups := s.pickups.modify i
        (Pickup.configure slot (onOff (at8 p 2)) (at16 p 3) (at16 p 5) (at8 p 7) (at16 p 8) (at8 p 10)
          (at8 p 11)) }
  | _, _ => .refused .badIndex

/-- PICKUP_SET (R39). -/
def execPickupSet (t : Taking) (s : State) : Answer :=
  .next (s.laneCommand 20 false (judged false 12 judgePickupSet) t)

/-- R174: the data of PICKUP_READ's reply for pickup `i`. -/
def pickupData (i : Fin 48) (q : Pickup) : List Byte :=
  [octet i.val, slotOctet q.slot, flagOctet q.enable] ++ octets2 q.openCode ++ octets2 q.closeCode ++
    [octet q.hang] ++ octets2 q.floorCode ++
    [octet q.attack, octet q.release, octet (gateCode q.gate)] ++ octets2 q.level ++
    [octet q.hangCount] ++ octets3 q.tickPeak

/-- R39, R183: a PICKUP_READ is judged and answered. -/
def judgePickupRead (p : List Byte) (s : State) : Verdict :=
  match index? 48 (at8 p 0) with
  | some i => answered s (pickupData i (s.pickups.get i))
  | none => .refused .badIndex

/-- PICKUP_READ (R39, R183). -/
def execPickupRead (t : Taking) (s : State) : Answer :=
  .next (s.laneCommand 21 true (judged false 1 judgePickupRead) t)

/-! ## FEED_SET, FEED_READ -/

/-- R178: slot `x` is held by a feed other than `f`, or by the pattern generator while it is on. -/
def State.slotTaken (f : Fin 32) (x : Fin 128) (s : State) : Bool :=
  ((List.finRange 32).any fun g => g != f && (s.level.feeds.get g).slot == some x) ||
    (s.pattern.genOn && s.pattern.genSlot == x)

/-- R178: the slot test of a FEED_SET; NONE passes. -/
def State.feedSlotTaken (f : Fin 32) (slot : Option (Fin 128)) (s : State) : Bool :=
  match slot with
  | some x => s.slotTaken f x
  | none => false

/-- R28: a feed's slot and trim target replaced; the trim current is kept. -/
def Feed.configure (slot : Option (Fin 128)) (trim : Nat) (f : Feed) : Feed :=
  { f with slot := slot, trimTarget := clampCode trim }

/-- R28, R176, R178: a FEED_SET is judged and applied. -/
def judgeFeedSet (p : List Byte) (s : State) : Verdict :=
  match index? 32 (at8 p 0), slotOrNone? (at8 p 1) with
  | some f, some slot =>
    if s.feedSlotTaken f slot then .refused .slotTaken
    else applied { s with
      level := { s.level with feeds := s.level.feeds.modify f (Feed.configure slot (at16 p 2)) } }
  | _, _ => .refused .badIndex

/-- FEED_SET (R28, R30). -/
def execFeedSet (t : Taking) (s : State) : Answer :=
  .next (s.laneCommand 22 false (judged false 4 judgeFeedSet) t)

/-- R174: the data of FEED_READ's reply for feed `f`. -/
def State.feedData (f : Fin 32) (s : State) : List Byte :=
  [octet f.val, slotOctet (s.level.feeds.get f).slot] ++ octets2 (s.level.feeds.get f).trim ++
    octets2 (s.level.feeds.get f).trimTarget ++ octets2 (s.guards.get f).trim

/-- R28, R183: a FEED_READ is judged and answered. -/
def judgeFeedRead (p : List Byte) (s : State) : Verdict :=
  match index? 32 (at8 p 0) with
  | some f => answered s (s.feedData f)
  | none => .refused .badIndex

/-- FEED_READ (R28, R183). -/
def execFeedRead (t : Taking) (s : State) : Answer :=
  .next (s.laneCommand 23 true (judged false 1 judgeFeedRead) t)

/-! ## GROUP_SET, GROUP_READ -/

/-- R26: target and rate of the masked groups. -/
def Level.aimGroups (mask : BitVec 32) (target rate : Nat) (l : Level) : Level :=
  { l with
    groups := l.groups.mapIdx fun i g =>
      if maskBit mask i.val then Group.aim (clampCode target) (min 255 rate) g else g }

/-- GROUP_SET (R26). -/
def execGroupSet (t : Taking) (s : State) : Answer :=
  .next (s.laneCommand 24 false
    (judged false 7 fun p s => applied
      { s with level := s.level.aimGroups (at32 p 0) (at16 p 4) (at8 p 6) }) t)

/-- R174: one group in GROUP_READ's reply. -/
def groupOctets (g : Group) : List Byte :=
  octets2 g.current ++ octets2 g.target ++ [octet g.rate, octet (phaseCode g.phase)]

/-- R174, R183: the data of GROUP_READ's reply, the selected groups in rising order. -/
def groupData (mask : BitVec 32) (groups : Bank 32 Group) : List Byte :=
  octets4 mask.toNat ++
    ((List.finRange 32).filter fun i => maskBit mask i.val).flatMap fun i => groupOctets (groups.get i)

/-- GROUP_READ (R24, R183). -/
def execGroupRead (t : Taking) (s : State) : Answer :=
  .next (s.laneCommand 25 true
    (judged false 4 fun p s => answered s (groupData (at32 p 0) s.level.groups)) t)

end Sys2Proof.Machine
end

