-- ==== Sys2Proof/Machine/Node.lean ====
section
/-!
DEFINITION. The node, event, chain and pattern commands (sections 11.3 and 11.4; R175 to R182, R192).
-/

namespace Sys2Proof.Machine

/-! ## BAD_KIND_COMMAND, IDENTIFY, NODE_RESET, QUIET, WAKE -/

/-- BAD_KIND_COMMAND (R175, R176): a command of a kind not in the table is refused with BAD_KIND. A kind of the
table, or 128 and above, is not this row's. -/
def execBadKindCommand (kind : Byte) (t : Taking) (s : State) : Answer :=
  .next (if kindBad kind then s.laneCommand kind false (fun _ _ => .refused .badKind) t else s)

/-- R179: the data of IDENTIFY's reply. -/
def identifyData (c : Chain) : List Byte :=
  octets2 10849 ++ octets2 4832 ++ [1, octet c.address.val, flagOctet c.leader, 48, 32, 32, 4, 8, 16] ++
    octets2 1024 ++ [8, 4]

/-- IDENTIFY (R179). -/
def execIdentify (t : Taking) (s : State) : Answer :=
  .next (s.laneCommand 1 true (judged true 0 fun _ s => answered s (identifyData s.chain)) t)

/-- NODE_RESET (R155): never refused, never replies, parameters ignored. -/
def execNodeReset (t : Taking) (s : State) : Answer :=
  .next (s.laneCommand 2 false (fun _ s => applied s.nodeReset) t)

/-- QUIET (R151). -/
def execQuiet (t : Taking) (s : State) : Answer :=
  .next (s.laneCommand 3 false (judged false 0 fun _ s => applied s.enterQuiet) t)

/-- R153: WAKE performs a node reset in QUIET and has no effect otherwise. -/
def State.wake (s : State) : State := if s.hold.condition = .quiet then s.nodeReset else s

/-- WAKE (R153): never refused, never replies, parameters ignored. -/
def execWake (t : Taking) (s : State) : Answer :=
  .next (s.laneCommand 4 false (fun _ s => applied s.wake) t)

/-! ## EVENTS_READ, EVENTS_CLEAR, EVENTS_MASK -/

/-- R188: the data of EVENTS_READ's reply. -/
def State.eventsData (s : State) : List Byte :=
  octets4 s.events.latch.toNat ++ octets4 s.liveWord.toNat ++ octets4 s.events.mask.toNat ++
    octets4 s.events.badU ++ octets4 s.events.badD ++ octets4 s.events.broken ++
    octets4 s.events.badMessages ++ octets2 s.events.dropped ++ octets4 s.events.concealed ++
    octets4 s.events.feedClips ++ octets4 s.events.coreClips ++ octets4 s.events.patWords ++
    octets5 s.events.patBits ++ [s.hold.octet, octet (holdStateCode s.hold.state)] ++
    octets2 s.level.hold ++ [flagOctet s.drivesHoldN, octet (conditionCode s.hold.condition)]

/-- EVENTS_READ (R180, R188). -/
def execEventsRead (t : Taking) (s : State) : Answer :=
  .next (s.laneCommand 8 true (judged true 0 fun _ s => answered s s.eventsData) t)

/-- R187: the latches selected by a mask cleared; bits that name no event are ignored (R180). -/
def Events.clear (mask : BitVec 32) (ev : Events) : Events :=
  { ev with latch := ev.latch &&& ~~~(mask.setWidth 23) }

/-- R187: every mask replaced; bits that name no event are ignored (R180, log 28). -/
def Events.remask (mask : BitVec 32) (ev : Events) : Events := { ev with mask := mask.setWidth 23 }

/-- EVENTS_CLEAR (R180, R187). -/
def execEventsClear (t : Taking) (s : State) : Answer :=
  .next (s.laneCommand 9 false
    (judged true 4 fun p s => applied { s with events := s.events.clear (at32 p 0) }) t)

/-- EVENTS_MASK (R180, R187). -/
def execEventsMask (t : Taking) (s : State) : Answer :=
  .next (s.laneCommand 10 false
    (judged false 4 fun p s => applied { s with events := s.events.remask (at32 p 0) }) t)

/-! ## CHAIN_READ, CHAIN_SET -/

/-- R174: a receive side's state, good run and bad run. -/
def portOctets (p : PortRx) : List Byte := [octet (portStateCode p.state), octet p.good, octet p.bad]

/-- R174, R181: the data of CHAIN_READ's reply. -/
def State.chainData (s : State) : List Byte :=
  [flagOctet s.chain.leader, octet s.chain.address.val] ++ portOctets s.chain.portU ++
    portOctets s.chain.portD ++ [octet s.chain.lockG, octet s.chain.lockB,
      octet (turnaroundCode s.chain.turnaround), flagOctet s.chain.discard] ++
    octets4 s.chain.switchNo.toNat ++ octets4 s.chain.nextNumber.toNat ++ octets4 s.events.badU ++
    octets4 s.events.badD

/-- CHAIN_READ (R181). -/
def execChainRead (t : Taking) (s : State) : Answer :=
  .next (s.laneCommand 12 true (judged true 0 fun _ s => answered s s.chainData) t)

/-- R6: the lock thresholds set, clamped. -/
def Chain.setLocks (g b : Nat) (c : Chain) : Chain :=
  { c with lockG := clamp 8 255 g, lockB := clamp 2 64 b }

/-- CHAIN_SET (R6, R181). -/
def execChainSet (t : Taking) (s : State) : Answer :=
  .next (s.laneCommand 13 false
    (judged false 2 fun p s => applied { s with chain := s.chain.setLocks (at8 p 0) (at8 p 1) }) t)

/-! ## PATTERN_SET, PATTERN_READ -/

/-- R178: some feed holds slot `x`. -/
def Level.slotHeld (x : Fin 128) (l : Level) : Bool := l.feeds.any fun f => f.slot == some x

/-- R176, R178, R182: a PATTERN_SET is judged: slots above 127, then the generator's slot held by a feed. -/
def judgePatternSet (p : List Byte) (s : State) : Verdict :=
  match index? 128 (at8 p 1), index? 128 (at8 p 3) with
  | some g, some c =>
    if onOff (at8 p 0) && s.level.slotHeld g then .refused .slotTaken
    else applied { s with
      pattern := s.pattern.configure
        ⟨onOff (at8 p 0), g, onOff (at8 p 2), c, clamp 1 65535 (at16 p 4)⟩ }
  | _, _ => .refused .badIndex

/-- PATTERN_SET (R182, R192). -/
def execPatternSet (t : Taking) (s : State) : Answer :=
  .next (s.laneCommand 16 false (judged false 6 judgePatternSet) t)

/-- R174, R182: the data of PATTERN_READ's reply. -/
def State.patternData (s : State) : List Byte :=
  [flagOctet s.pattern.genOn, octet s.pattern.genSlot.val, flagOctet s.pattern.chkOn,
    octet s.pattern.chkSlot.val, flagOctet s.pattern.inSync, octet s.pattern.goodRun,
    octet s.pattern.mismatchRun] ++
    octets4 s.events.patWords ++ octets5 s.events.patBits ++ octets2 s.pattern.threshold

/-- R182: a PATTERN_READ with its clear flag set clears the checker's counts after they are read. -/
def judgePatternRead (p : List Byte) (s : State) : Verdict :=
  .taken
    (if onOff (at8 p 0) then { s with events := { s.events with patWords := 0, patBits := 0 } } else s)
    (some (.done, s.patternData))

/-- PATTERN_READ (R182). -/
def execPatternRead (t : Taking) (s : State) : Answer :=
  .next (s.laneCommand 17 true (judged false 1 judgePatternRead) t)

end Sys2Proof.Machine
end

