-- ==== Sys2Proof/Machine/Scenes.lean ====
section
/-!
DEFINITION. The core and scene commands (R184; R77 to R81, R101 to R107).
-/

namespace Sys2Proof.Machine

/-! ## CORE_SHAPE, CORE_READ -/

/-- R77: the CUED, ACTIVE or OUTGOING scene references core `c`. -/
def State.coreInUse (c : Fin 4) (s : State) : Bool :=
  s.scenes.any fun sc => sc.state.locked && sc.references c

/-- R79: READY scenes that reference core `c` become EDITING. -/
def demoteScenes (c : Fin 4) (scenes : Bank 16 Scene) : Bank 16 Scene :=
  scenes.map fun sc =>
    if sc.state = .ready ∧ sc.references c = true then { sc with state := .editing } else sc

/-- R79: a running check of a scene that references core `c` is aborted. -/
def State.abortCheckUsing (c : Fin 4) (s : State) : State :=
  match s.check with
  | none => s
  | some r => if (s.scenes.get r.scene).references c then s.abortCheck else s

/-- R78, R79: core `c` takes a new shape. -/
def State.shapeCore (c : Fin 4) (lengths : Bank 8 Nat) (s : State) : State :=
  let a := s.abortCheckUsing c
  { a with
    cores := a.cores.modify c (RevCore.reshape lengths)
    scenes := demoteScenes c a.scenes }

/-- R77: a CORE_SHAPE is judged in its order and applied. -/
def judgeCoreShape (p : List Byte) (s : State) : Verdict :=
  match index? 4 (at8 p 0) with
  | none => .refused .badIndex
  | some c =>
    let lengths := clampLengths fun l => at16 p (1 + 2 * l.val)
    if s.coreInUse c then .refused .coreInUse
    else if 16384 < lengths.items.sum then .refused .badShape
    else applied (s.shapeCore c lengths)

/-- CORE_SHAPE (R77, R78, R79). -/
def execCoreShape (t : Taking) (s : State) : Answer :=
  .next (s.laneCommand 28 false (judged false 17 judgeCoreShape) t)

/-- R75, R174: the data of CORE_READ's reply for core `i`. -/
def coreData (i : Fin 4) (c : RevCore) : List Byte :=
  [octet i.val, octet (coreStateCode c.state)] ++ c.lengths.items.flatMap octets2 ++
    octets2 c.lengths.items.sum ++ [octet c.clearCount, octet c.inUse.damping] ++
    c.inUse.absorption.items.flatMap octets3

/-- R75, R184: a CORE_READ is judged and answered. -/
def judgeCoreRead (p : List Byte) (s : State) : Verdict :=
  match index? 4 (at8 p 0) with
  | some c => answered s (coreData c (s.cores.get c))
  | none => .refused .badIndex

/-- CORE_READ (R75, R184). -/
def execCoreRead (t : Taking) (s : State) : Answer :=
  .next (s.laneCommand 29 true (judged false 1 judgeCoreRead) t)

/-! ## SCENE_HEAD, TAP_WRITE, SCENE_CLEAR -/

/-- R101, R103, R104: a scene command is judged for its scene's number and lock. -/
def onUnlocked (x : Nat) (s : State) (act : Fin 16 → Verdict) : Verdict :=
  match index? 16 x with
  | none => .refused .badIndex
  | some i => if (s.scenes.get i).state.locked then .refused .sceneLocked else act i

/-- R97, R103: the header a SCENE_HEAD carries, clamped. -/
def headerOf (p : List Byte) : Header where
  fadeCode := clampFade (at8 p 1)
  wander := clampWander (at16 p 2)
  decay := Bank.ofFn fun c => clampDecay (at16 p (4 + 2 * c.val))
  damping := Bank.ofFn fun c => clampDamping (at8 p (12 + c.val))

/-- R103, R105: scene `i` takes a header. -/
def State.setHeader (i : Fin 16) (h : Header) (s : State) : State :=
  let a := s.abortCheckOf i
  { a with scenes := a.scenes.modify i fun sc => { sc with header := h, state := .editing } }

/-- SCENE_HEAD (R103). -/
def execSceneHead (t : Taking) (s : State) : Answer :=
  .next (s.laneCommand 32 false
    (judged false 16 fun p s => onUnlocked (at8 p 0) s fun i => applied (s.setHeader i (headerOf p))) t)

/-- R102, R105: scene `i` takes tap records from index `first`. -/
def State.putTaps (i : Fin 16) (first : Nat) (records : List Tap) (s : State) : State :=
  let a := s.abortCheckOf i
  { a with
    scenes := a.scenes.modify i fun sc =>
      { sc with taps := writeTaps sc.taps first records, state := .editing } }

/-- R102: the reply of a TAP_WRITE that has dropped records. -/
def dropReplyData (i : Fin 16) (first count : Nat) : Option (Status × List Byte) :=
  if tapsWritten first count < count then
    some (.done, octet i.val :: octets2 first ++ [octet (tapsWritten first count)])
  else none

/-- R101 steps 2 to 6: a TAP_WRITE is judged in its order and applied. -/
def judgeTapWrite (p : List Byte) (s : State) : Verdict :=
  let count := at8 p 3
  let first := at16 p 1
  if p.length < 4 ∨ 54 < count ∨ p.length ≠ 4 + 8 * count then .refused .badLength
  else onUnlocked (at8 p 0) s fun i =>
    if (s.scenes.get i).tapCount < first then .refused .gap
    else .taken (s.putTaps i first (tapRecords p count)) (dropReplyData i first count)

/-- TAP_WRITE (R101, R102). -/
def execTapWrite (t : Taking) (s : State) : Answer :=
  .next (s.laneCommand 33 false
    (fun e s => if s.hold.condition = .quiet then .refused .quiet else judgeTapWrite e.params s) t)

/-- R104: scene `i` emptied. -/
def State.clearScene (i : Fin 16) (s : State) : State :=
  let a := s.abortCheckOf i
  { a with scenes := a.scenes.set i Scene.reset }

/-- SCENE_CLEAR (R104). -/
def execSceneClear (t : Taking) (s : State) : Answer :=
  .next (s.laneCommand 35 false
    (judged false 1 fun p s => onUnlocked (at8 p 0) s fun i => applied (s.clearScene i)) t)

/-! ## SCENE_CHECK -/

/-- R107: a SCENE_CHECK of scene `i` is taken: an empty tap list passes at once; else the check starts, with the
entry reserved for a unicast command. -/
def startCheck (e : Entry) (i : Fin 16) (s : State) : Verdict :=
  if (s.scenes.get i).tapCount = 0 then
    .taken
      { s with scenes := s.scenes.modify i fun sc => { sc with state := .ready, result := .passed } }
      (some (.checkPassed, octet i.val :: octets2 0))
  else
    applied
      { s with
        check := some ⟨i, 0, if e.broadcast then none else some e.ticket⟩
        scenes := s.scenes.modify i fun sc => { sc with state := .checking } }

/-- R107 steps 3 to 6: a SCENE_CHECK is judged. -/
def judgeSceneCheck (e : Entry) (p : List Byte) (s : State) : Verdict :=
  onUnlocked (at8 p 0) s fun i =>
    if (s.scenes.get i).state = .empty then .refused .notReady
    else if s.check.isSome then .refused .busy
    else startCheck e i s

/-- SCENE_CHECK (R107). -/
def execSceneCheck (t : Taking) (s : State) : Answer :=
  .next (s.laneCommand 36 false (fun e s => judged false 1 (judgeSceneCheck e) e s) t)

/-! ## SCENE_READ, TAP_READ -/

/-- R106, R174: the next index of the running check of scene `i`, 0 when it is not being checked. -/
def State.checkNext (i : Fin 16) (s : State) : Nat :=
  match s.check with
  | some c => if c.scene = i then c.next else 0
  | none => 0

/-- R174: failing tap index and reason of a last check result; 0 unless FAILED. -/
def failureOctets : CheckResult → List Byte
  | .failed i r => octets2 i ++ [octet (reasonCode r)]
  | .none => octets2 0 ++ [0]
  | .passed => octets2 0 ++ [0]

/-- R106, R174: the data of SCENE_READ's reply for scene `i`. -/
def State.sceneData (i : Fin 16) (s : State) : List Byte :=
  let sc := s.scenes.get i
  [octet i.val, octet (sceneStateCode sc.state)] ++ octets2 sc.tapCount ++
    [octet sc.header.fadeCode] ++ octets2 sc.header.wander ++ sc.header.decay.items.flatMap octets2 ++
    sc.header.damping.items.map octet ++ [octet (resultCode sc.result)] ++ failureOctets sc.result ++
    octets2 (s.checkNext i) ++ [flagOctet (s.cue.target == some i)]

/-- R106: a SCENE_READ is judged and answered. -/
def judgeSceneRead (p : List Byte) (s : State) : Verdict :=
  match index? 16 (at8 p 0) with
  | some i => answered s (s.sceneData i)
  | none => .refused .badIndex

/-- SCENE_READ (R106). -/
def execSceneRead (t : Taking) (s : State) : Answer :=
  .next (s.laneCommand 37 true (judged false 1 judgeSceneRead) t)

/-- R106: the records a TAP_READ returns; the count is clamped to 0..54. -/
def tapsRead (taps : List Tap) (first count : Nat) : List Tap := (taps.drop first).take (min 54 count)

/-- R106, R174: the data of TAP_READ's reply. -/
def tapReadData (i : Fin 16) (first : Nat) (records : List Tap) : List Byte :=
  octet i.val :: octets2 first ++ [octet records.length] ++ records.flatMap tapOctets

/-- R106: a TAP_READ is judged and answered. -/
def judgeTapRead (p : List Byte) (s : State) : Verdict :=
  match index? 16 (at8 p 0) with
  | some i =>
    answered s (tapReadData i (at16 p 1) (tapsRead (s.scenes.get i).taps (at16 p 1) (at8 p 3)))
  | none => .refused .badIndex

/-- TAP_READ (R106). -/
def execTapRead (t : Taking) (s : State) : Answer :=
  .next (s.laneCommand 34 true (judged false 4 judgeTapRead) t)

end Sys2Proof.Machine
end

