-- ==== Sys2Proof/Machine/Dispatch.lean ====
section
/-!
DEFINITION. One arm per row of spec/opcode_table.json.
-/

namespace Sys2Proof.Machine

def exec (i : Instr) (s : State) : Host.Outcome State Fault Refusal :=
  match i with
  | .powerOnReset lead address => Sys2Proof.Machine.execPowerOnReset lead address s
  | .lineActivityAppears port => Sys2Proof.Machine.execLineActivityAppears port s
  | .lineActivityLost port => Sys2Proof.Machine.execLineActivityLost port s
  | .frameOriginate holdPulled => Sys2Proof.Machine.execFrameOriginate holdPulled s
  | .outboundFrameReceive octets holdPulled => Sys2Proof.Machine.execOutboundFrameReceive octets holdPulled s
  | .syncMissingPeriod port holdPulled => Sys2Proof.Machine.execSyncMissingPeriod port holdPulled s
  | .returnFrameReceive octets => Sys2Proof.Machine.execReturnFrameReceive octets s
  | .discardMarkExpire => Sys2Proof.Machine.execDiscardMarkExpire s
  | .coreShaped core => Sys2Proof.Machine.execCoreShaped core s
  | .checkPass => Sys2Proof.Machine.execCheckPass s
  | .checkFail => Sys2Proof.Machine.execCheckFail s
  | .cueFire k => Sys2Proof.Machine.execCueFire k s
  | .gateHangExpire pickup => Sys2Proof.Machine.execGateHangExpire pickup s
  | .crossfadeEnd => Sys2Proof.Machine.execCrossfadeEnd s
  | .quietHoldExpire feed => Sys2Proof.Machine.execQuietHoldExpire feed s
  | .recoveryStep feed => Sys2Proof.Machine.execRecoveryStep feed s
  | .badKindCommand kind t => Sys2Proof.Machine.execBadKindCommand kind t s
  | .identify t => Sys2Proof.Machine.execIdentify t s
  | .nodeReset t => Sys2Proof.Machine.execNodeReset t s
  | .quiet t => Sys2Proof.Machine.execQuiet t s
  | .wake t => Sys2Proof.Machine.execWake t s
  | .eventsRead t => Sys2Proof.Machine.execEventsRead t s
  | .eventsClear t => Sys2Proof.Machine.execEventsClear t s
  | .eventsMask t => Sys2Proof.Machine.execEventsMask t s
  | .chainRead t => Sys2Proof.Machine.execChainRead t s
  | .chainSet t => Sys2Proof.Machine.execChainSet t s
  | .patternSet t => Sys2Proof.Machine.execPatternSet t s
  | .patternRead t => Sys2Proof.Machine.execPatternRead t s
  | .pickupSet t => Sys2Proof.Machine.execPickupSet t s
  | .pickupRead t => Sys2Proof.Machine.execPickupRead t s
  | .feedSet t => Sys2Proof.Machine.execFeedSet t s
  | .feedRead t => Sys2Proof.Machine.execFeedRead t s
  | .groupSet t => Sys2Proof.Machine.execGroupSet t s
  | .groupRead t => Sys2Proof.Machine.execGroupRead t s
  | .coreShape t => Sys2Proof.Machine.execCoreShape t s
  | .coreRead t => Sys2Proof.Machine.execCoreRead t s
  | .sceneHead t => Sys2Proof.Machine.execSceneHead t s
  | .tapWrite t => Sys2Proof.Machine.execTapWrite t s
  | .tapRead t => Sys2Proof.Machine.execTapRead t s
  | .sceneClear t => Sys2Proof.Machine.execSceneClear t s
  | .sceneCheck t => Sys2Proof.Machine.execSceneCheck t s
  | .sceneRead t => Sys2Proof.Machine.execSceneRead t s
  | .cue t => Sys2Proof.Machine.execCue t s
  | .cueCancel t => Sys2Proof.Machine.execCueCancel t s
  | .cueRead t => Sys2Proof.Machine.execCueRead t s
  | .guardSet t => Sys2Proof.Machine.execGuardSet t s
  | .guardRead t => Sys2Proof.Machine.execGuardRead t s
  | .hold t => Sys2Proof.Machine.execHold t s
  | .resume t => Sys2Proof.Machine.execResume t s
  | .powerOnResetHeld => Sys2Proof.Machine.execPowerOnResetHeld s

end Sys2Proof.Machine
end

