-- ==== Sys2Proof/Safety.lean ====
section
/-!
DEFINITION. What a lawful state of the block is: the laws the spec states over the whole machine, each a
decidable proposition about one state. A reset state has them all and every command keeps them; claims that
hold only in lawful states name the law they need.
-/

namespace Sys2Proof.Machine

/-! ## The chain -/

/-- R5: runs within their counters; a DOWN receive side has both at 0. -/
abbrev PortRx.Lawful (p : PortRx) : Prop :=
  p.good ≤ 255 ∧ p.bad ≤ 64 ∧ (p.state = .down → p.good = 0 ∧ p.bad = 0)

/-- R1, R4, R6, R11, R13, R150, R154: the turnaround state follows the ports, a leader's Port U stays DOWN and
silent, a LOCKED port has found its sync pattern, the node condition agrees with Port U, the thresholds stay in
range, the discard mark stands in THROUGH only, and nothing is transmitted while RST_N is low. -/
abbrev State.ChainLaw (s : State) : Prop :=
  s.chain.turnaround = turnaroundOf s.chain.leader s.chain.portU.state s.chain.portD.state ∧
  (s.chain.leader = true → s.chain.portU = PortRx.down ∧ s.chain.txU = none) ∧
  s.chain.portU.Lawful ∧ s.chain.portD.Lawful ∧
  (s.chain.portU.state = .locked → s.chain.syncU = true) ∧
  (s.chain.portD.state = .locked → s.chain.syncD = true) ∧
  8 ≤ s.chain.lockG ∧ s.chain.lockG ≤ 255 ∧ 2 ≤ s.chain.lockB ∧ s.chain.lockB ≤ 64 ∧
  (s.chain.discard = true → s.chain.turnaround = .through) ∧
  s.chain.sinceSwitch ≤ 16 ∧
  (s.hold.condition = .running → s.chain.handles = true) ∧
  (s.hold.condition = .isolated → s.chain.handles = false) ∧
  (s.pins.rstLow = true → s.chain.txU = none ∧ s.chain.txD = none)

/-! ## Levels, gates and guards -/

/-- R20, R24: a ramp group's codes, rate and phase. -/
abbrev Group.Lawful (g : Group) : Prop :=
  g.current ≤ 1024 ∧ g.target ≤ 1024 ∧ g.rate ≤ 255 ∧ g.phase = phaseOf g.current g.target

/-- R20, R38, R51: a pickup's record and gate. -/
abbrev Pickup.Lawful (p : Pickup) : Prop :=
  p.openCode ≤ p.closeCode ∧ p.closeCode ≤ 1024 ∧ p.floorCode ≤ 1024 ∧ p.level ≤ 1024 ∧
  p.hang ≤ 255 ∧ p.attack ≤ 255 ∧ p.release ≤ 255 ∧ p.hangCount ≤ 255 ∧
  p.peak ≤ 8388608 ∧ p.tickPeak ≤ 8388608 ∧
  (p.gate = .hanging ↔ 0 < p.hangCount) ∧
  (p.enable = false → p.gate = .opened ∧ p.level = 0)

/-- R132: a guard record: parameters in range, the trim within its limit, and no trim in WATCH. -/
abbrev Guard.Lawful (g : Guard) : Prop :=
  g.floorCode ≤ 1024 ∧ 2 ≤ g.rise ∧ g.rise ≤ 64 ∧ 8 ≤ g.cutStep ∧ g.cutStep ≤ 128 ∧ g.limit ≤ 512 ∧
  100 ≤ g.quietHold ∧ g.quietHold ≤ 65535 ∧ 1 ≤ g.interval ∧ g.interval ≤ 255 ∧
  g.trim ≤ g.limit ∧ g.run ≤ 64 ∧ g.prevPeak ≤ 8388608 ∧ g.settle ≤ 2 ∧ g.timer ≤ 65535 ∧ g.count ≤ 255 ∧
  (g.state = .watch → g.trim = 0) ∧ (g.enable = false → g.state = .watch)

/-- R20: every attenuation code lies within 0..1024, with the ranges of the records that hold them. -/
abbrev State.CodeLaw (s : State) : Prop :=
  (∀ g, (s.level.groups.get g).Lawful) ∧
  (∀ f, (s.level.feeds.get f).trim ≤ 1024 ∧ (s.level.feeds.get f).trimTarget ≤ 1024) ∧
  s.level.hold ≤ 1024 ∧
  (∀ i, (s.pickups.get i).Lawful) ∧
  (∀ f, (s.guards.get f).Lawful) ∧
  (∀ f, s.taps.peaks.get f ≤ 8388608)

/-! ## Holding -/

/-- R147: the hold level each hold state stands with; R36, R147, R151: outside RUNNING the part is HELD. -/
abbrev State.HoldLaw (s : State) : Prop :=
  (s.hold.state = .running → s.level.hold = 0) ∧
  (s.hold.state = .holding → s.level.hold < 1024) ∧
  (s.hold.state = .held → s.level.hold = 1024) ∧
  (s.hold.state = .resuming → 0 < s.level.hold) ∧
  (s.hold.condition ≠ .running → s.hold.state = .held)

/-! ## The lane -/

/-- R158: an assembling context of source `i`. -/
abbrev Assembly.Lawful (i : Fin 16) (a : Assembly) : Prop :=
  a.octets.length = 7 * a.segments ∧ 1 ≤ a.segments ∧ a.segments ≤ 64 ∧
  a.segments ≤ segmentsNeeded a.declared ∧ a.declared ≤ 441 ∧ turnOf a.expected = i

/-- R161, R163: at most 8 queued commands with BACKPRESSURE as its rule sets and clears it, at most 4 reply
entries in use, and a transmission that stands within its reply. -/
abbrev State.LaneLaw (s : State) : Prop :=
  s.lane.queue.length ≤ 8 ∧
  (6 ≤ s.lane.queue.length → s.lane.backpressure = true) ∧
  (s.lane.backpressure = true → 4 ≤ s.lane.queue.length) ∧
  s.lane.ready.length + s.reservedReplies ≤ 4 ∧
  (0 < s.lane.sent → ∃ r ∈ s.lane.ready.head?, s.lane.sent < r.segments) ∧
  (∀ i, ∀ a ∈ s.lane.contexts.get i, i ≠ s.chain.address ∧ a.Lawful i) ∧
  (∀ i, ∀ m ∈ s.lane.record.get i, turnOf m.frame = i)

/-! ## Memories and cores -/

/-- R75, R93: a set of targets: absorptions below unity, damping at most 240. -/
abbrev Targets.Lawful (t : Targets) : Prop :=
  (∀ l, t.absorption.get l ≤ 8387189) ∧ t.damping ≤ 240

/-- R75, R77, R80, R93: a core: its geometry, its indices within their lines, its line memory canonical and
within 16,384 positions, its clear count as its state has it, and every target set lawful. -/
abbrev RevCore.Lawful (c : RevCore) : Prop :=
  (∀ l, 64 ≤ c.lengths.get l ∧ c.lengths.get l ≤ 4095 ∧ c.index.get l < c.lengths.get l) ∧
  c.lengths.items.sum ≤ 16384 ∧
  c.mem.wf = true ∧ (∀ p ∈ c.mem, p.1 < 16384) ∧
  (c.state = .unshaped → c.clearCount = 0) ∧ (c.state = .shaping → c.clearCount < 8) ∧
  (c.state = .shaped → c.clearCount = 8) ∧
  c.active.Lawful ∧ c.outgoing.Lawful ∧ c.inUse.Lawful ∧ (∀ t ∈ c.armed, t.Lawful)

/-- R41, R52, R75, R93, R124: delay lines canonical and within 32,768 positions, valid buffer entries at their
tag's place, lawful cores, and a crossfade weight within 0..8192. -/
abbrev State.MemoryLaw (s : State) : Prop :=
  (∀ i, (s.delay.get i).wf = true ∧ ∀ p ∈ s.delay.get i, p.1 < 32768) ∧
  (∀ i, (s.buffer.get i).valid = true → turnOf (s.buffer.get i).tag = i) ∧
  (∀ c, (s.cores.get c).Lawful) ∧
  s.cue.weight ≤ 8192

/-! ## Scenes and cues -/

/-- R97: a header as stored. -/
abbrev Header.Lawful (h : Header) : Prop :=
  h.fadeCode ≤ 13 ∧ (h.wander = 0 ∨ (1000 ≤ h.wander ∧ h.wander ≤ 60000)) ∧
  (∀ c, h.decay.get c = 0 ∨ (100 ≤ h.decay.get c ∧ h.decay.get c ≤ 12000)) ∧
  (∀ c, h.damping.get c ≤ 240)

/-- R57, R96, R98: a scene's header, tap count and tap fields as stored. -/
abbrev Scene.Lawful (sc : Scene) : Prop :=
  sc.header.Lawful ∧ sc.taps.length ≤ 1024 ∧ (∀ t ∈ sc.taps, t.delay ≤ 32767 ∧ t.depth ≤ 7)

/-- R99, R123: the scene states against the Cue Unit and the Check Unit. -/
abbrev State.SceneLaw (s : State) : Prop :=
  (∀ i, (s.scenes.get i).Lawful) ∧
  (∀ i j, (s.scenes.get i).state = .active → (s.scenes.get j).state = .active → i = j) ∧
  (∀ i j, (s.scenes.get i).state = .outgoing → (s.scenes.get j).state = .outgoing → i = j) ∧
  ((∃ i, (s.scenes.get i).state = .outgoing) ↔ s.cue.state.fades = true ∧ s.cue.silence = false) ∧
  (s.cue.state.hasCue = true ↔ s.cue.target.isSome = true) ∧
  (∀ i, (s.scenes.get i).state = .cued → s.cue.target = some i) ∧
  (∀ i ∈ s.cue.target, (s.scenes.get i).state = .cued ∨ (s.scenes.get i).state = .outgoing) ∧
  (∀ i, (s.scenes.get i).state = .checking ↔ s.check.map CheckRun.scene = some i)

/-- R99: a scene that is READY or locked passed its check, and nothing has changed that since: every tap passes
the five tests, and so every core it references is SHAPED. R108: the taps a running check has left behind
pass. -/
abbrev State.CheckedLaw (s : State) : Prop :=
  (∀ i, (s.scenes.get i).state = .ready ∨ (s.scenes.get i).state.locked = true →
    ∀ t ∈ (s.scenes.get i).taps, checkTap s.cores t = none) ∧
  (∀ c ∈ s.check, ∀ t ∈ (s.scenes.get c.scene).taps.take c.next, checkTap s.cores t = none)

/-! ## Counters and the pattern unit -/

/-- R188: every counter within its width. -/
abbrev Events.Lawful (e : Events) : Prop :=
  e.badU ≤ top32 ∧ e.badD ≤ top32 ∧ e.broken ≤ top32 ∧ e.badMessages ≤ top32 ∧ e.dropped ≤ top16 ∧
  e.concealed ≤ top32 ∧ e.feedClips ≤ top32 ∧ e.coreClips ≤ top32 ∧ e.patWords ≤ top32 ∧ e.patBits ≤ top40

/-- R178: no slot is held by two feeds, or by a feed and the generator that is on. -/
abbrev State.SlotLaw (s : State) : Prop :=
  (∀ f g, (s.level.feeds.get f).slot = (s.level.feeds.get g).slot →
    f = g ∨ (s.level.feeds.get f).slot = none) ∧
  (s.pattern.genOn = true → ∀ f, (s.level.feeds.get f).slot ≠ some s.pattern.genSlot)

/-- R188, R191, R192: the counters and the checker's runs and threshold in range; an off checker SEEKING. -/
abbrev State.CountLaw (s : State) : Prop :=
  s.events.Lawful ∧ s.pattern.goodRun ≤ 8 ∧ s.pattern.mismatchRun ≤ 8 ∧ 1 ≤ s.pattern.threshold ∧
  s.pattern.threshold ≤ 65535 ∧ (s.pattern.chkOn = false → s.pattern.inSync = false)

/-- Every law together. -/
abbrev State.Lawful (s : State) : Prop :=
  s.ChainLaw ∧ s.CodeLaw ∧ s.HoldLaw ∧ s.LaneLaw ∧ s.MemoryLaw ∧ s.SceneLaw ∧ s.CheckedLaw ∧ s.SlotLaw ∧
    s.CountLaw

/-! ## The lane command rows -/

/-- The rows of the lane commands, each with its kind (R175). -/
def laneRows : List (Byte × (Taking → Instr)) :=
  [(1, .identify), (2, .nodeReset), (3, .quiet), (4, .wake), (8, .eventsRead), (9, .eventsClear),
   (10, .eventsMask), (12, .chainRead), (13, .chainSet), (16, .patternSet), (17, .patternRead)] ++
  [(20, .pickupSet), (21, .pickupRead), (22, .feedSet), (23, .feedRead), (24, .groupSet),
   (25, .groupRead), (28, .coreShape), (29, .coreRead), (32, .sceneHead), (33, .tapWrite),
   (34, .tapRead)] ++
  [(35, .sceneClear), (36, .sceneCheck), (37, .sceneRead), (40, .cue), (41, .cueCancel), (42, .cueRead),
   (44, .guardSet), (45, .guardRead), (48, .hold), (49, .resume)]

/-- R175: the query rows, each with its kind and parameter length. -/
def queryRows : List (Byte × Nat × (Taking → Instr)) :=
  [(1, 0, .identify), (8, 0, .eventsRead), (12, 0, .chainRead), (17, 1, .patternRead),
   (21, 1, .pickupRead), (23, 1, .feedRead), (25, 4, .groupRead), (29, 1, .coreRead),
   (34, 4, .tapRead), (37, 1, .sceneRead), (42, 0, .cueRead), (45, 1, .guardRead)]

/-- R175: the rows refused in QUIET, each with its kind. -/
def quietRefusedRows : List (Byte × (Taking → Instr)) :=
  [(3, .quiet), (10, .eventsMask), (13, .chainSet), (16, .patternSet), (17, .patternRead),
   (20, .pickupSet), (21, .pickupRead), (22, .feedSet), (23, .feedRead), (24, .groupSet),
   (25, .groupRead), (28, .coreShape), (29, .coreRead), (32, .sceneHead)] ++
  [(33, .tapWrite), (34, .tapRead), (35, .sceneClear), (36, .sceneCheck), (37, .sceneRead), (40, .cue),
   (41, .cueCancel), (42, .cueRead), (44, .guardSet), (45, .guardRead), (48, .hold), (49, .resume)]

/-- R175: the rows of one parameter length, each with its kind and that length. -/
def fixedRows : List (Byte × Nat × (Taking → Instr)) :=
  [(1, 0, .identify), (3, 0, .quiet), (8, 0, .eventsRead), (9, 4, .eventsClear), (10, 4, .eventsMask),
   (12, 0, .chainRead), (13, 2, .chainSet), (16, 6, .patternSet), (17, 1, .patternRead),
   (20, 12, .pickupSet), (21, 1, .pickupRead), (22, 4, .feedSet), (23, 1, .feedRead), (24, 7, .groupSet),
   (25, 4, .groupRead)] ++
  [(28, 17, .coreShape), (29, 1, .coreRead), (32, 16, .sceneHead), (34, 4, .tapRead), (35, 1, .sceneClear),
   (36, 1, .sceneCheck), (37, 1, .sceneRead), (40, 6, .cue), (41, 0, .cueCancel), (42, 0, .cueRead),
   (44, 15, .guardSet), (45, 1, .guardRead), (48, 0, .hold), (49, 0, .resume)]

/-- R162: the Command Unit takes `e`, the oldest entry of the command queue, which leaves `rest`: RST_N is high
and `e` is of kind `kind`, with `length` parameter octets, and broadcast, or a reply entry is FREE. -/
abbrev State.Takes (s : State) (e : Entry) (rest : List Entry) (kind : Byte) (length : Nat) : Prop :=
  s.pins.rstLow = false ∧ s.lane.queue = e :: rest ∧ e.kind = kind ∧ e.params.length = length ∧
    (e.broadcast = true ∨ 0 < s.freeReplies)

/-- R177: the refusal of `e` with status `st`, in the state `s` its taking left: a reply of the status octet
alone, or for a broadcast the COMMAND_REFUSED latch. -/
def State.refusal (e : Entry) (st : Status) (s : State) : State :=
  if e.broadcast then s.latch .commandRefused else s.pushReply e.ticket st []

/-! ## What a reset and a loss of the upstream side leave -/

/-- R24, R28, R36, R37: the Level Unit after a reset. -/
abbrev Level.IsReset (l : Level) : Prop :=
  (∀ g, l.groups.get g = ⟨0, 0, 0, .steady⟩) ∧ (∀ f, l.feeds.get f = ⟨none, 1024, 1024⟩) ∧ l.hold = 1024

/-- R38, R41, R54, R55: the Pickup Unit and Delay Memory after a reset. -/
def State.PickupsReset (t : State) : Prop :=
  (∀ i, t.pickups.get i = ⟨none, false, 512, 576, 100, 1024, 64, 4, .opened, 0, 0, 0, 0, 0⟩) ∧
  (∀ i, (t.buffer.get i).valid = false ∧ (t.buffer.get i).tag = 0 ∧
    ∀ p, (t.buffer.get i).samples.get p = 0) ∧
  (∀ i p, (t.delay.get i).read p = 0)

/-- R95: a core after a reset. -/
def RevCore.IsReset (c : RevCore) : Prop :=
  c.state = .unshaped ∧ c.clearCount = 0 ∧ c.armed = none ∧ (∀ p, c.mem.read p = 0) ∧
  (∀ l, c.lengths.get l = 64 ∧ c.index.get l = 0 ∧ c.damp.get l = 0 ∧ c.active.absorption.get l = 0 ∧
    c.outgoing.absorption.get l = 0) ∧
  c.active.damping = 0 ∧ c.outgoing.damping = 0

/-- R96, R97, R114: a scene after a reset. -/
def Scene.IsReset (sc : Scene) : Prop :=
  sc.state = .empty ∧ sc.taps = [] ∧ sc.result = .none ∧ sc.header.fadeCode = 6 ∧ sc.header.wander = 0 ∧
  ∀ c, sc.header.decay.get c = 0 ∧ sc.header.damping.get c = 0

/-- R156, R158, R161, R163: the Lane Controller after a reset. -/
abbrev Lane.IsReset (l : Lane) : Prop :=
  (∀ i, l.contexts.get i = none ∧ l.record.get i = none) ∧ l.queue = [] ∧ l.ready = [] ∧ l.sent = 0 ∧
  l.lossPending = false ∧ l.backpressure = false

/-- R55, R74, R95, R114, R115, R144, R189, R192: every block but the Chain Interface and the Hold Controller
after a reset. -/
def State.BlocksReset (t : State) : Prop :=
  t.level.IsReset ∧ t.PickupsReset ∧
  t.taps.gainActive = none ∧ t.taps.gainOutgoing = none ∧ (∀ f, t.taps.peaks.get f = 0) ∧
  (∀ c, (t.cores.get c).IsReset) ∧ (∀ i, (t.scenes.get i).IsReset) ∧ t.check = none ∧
  (t.cue.state = .idle ∧ t.cue.target = none ∧ t.cue.frameX = 0 ∧ t.cue.immediate = false ∧
    t.cue.weight = 0 ∧ t.cue.stepSize = 0 ∧ t.cue.silence = false ∧ t.cue.deferred = false ∧
    t.cue.wanderActive = none ∧ t.cue.wanderOutgoing = none) ∧
  (∀ f, t.guards.get f = ⟨false, 512, 6, 32, 192, 2000, 20, false, .watch, 0, 0, 0, 0, 0, 0⟩) ∧
  t.lane.IsReset ∧
  t.events = ⟨0x400000#23, 0, 0, 0, 0, 0, 0, 0, 0, 0, 0, 0⟩ ∧
  (t.pattern.genOn = false ∧ t.pattern.genSlot = 0 ∧ t.pattern.history = BitVec.allOnes 23 ∧
    t.pattern.chkOn = false ∧ t.pattern.chkSlot = 0 ∧ t.pattern.inSync = false ∧
    t.pattern.predictor = 0 ∧ t.pattern.lastFrame = 0 ∧ t.pattern.goodRun = 0 ∧
    t.pattern.mismatchRun = 0 ∧ t.pattern.threshold = 255)

/-- R155: `t` is `s` after a node reset. -/
def State.NodeResetTo (s t : State) : Prop :=
  t.chain = s.chain ∧ t.pins = s.pins ∧ t.pending = s.pending ∧ t.BlocksReset ∧
  t.hold = ⟨false, false, false, true, !s.chain.handles, .held,
    if s.chain.handles then .running else .isolated⟩ ∧
  t.drivesHoldN = false

/-- R15, R54, R74, R94: the signal memories stand at 0 in `t`, and what entry into ISOLATED or QUIET keeps
beside them is as in `s`. -/
def State.MemoriesCleared (s t : State) : Prop :=
  (∀ i p, (t.delay.get i).read p = 0) ∧
  (∀ i, (t.buffer.get i).valid = false) ∧
  (∀ i, t.pickups.get i = { s.pickups.get i with peak := 0, held := 0 }) ∧
  (∀ f, t.taps.peaks.get f = 0) ∧
  (∀ c p, (t.cores.get c).mem.read p = 0) ∧ (∀ c l, (t.cores.get c).damp.get l = 0) ∧
  (∀ c, (t.cores.get c).state = (s.cores.get c).state ∧
    (t.cores.get c).lengths = (s.cores.get c).lengths ∧
    (t.cores.get c).clearCount = (s.cores.get c).clearCount ∧
    (t.cores.get c).index = (s.cores.get c).index ∧ (t.cores.get c).active = (s.cores.get c).active ∧
    (t.cores.get c).outgoing = (s.cores.get c).outgoing ∧
    (t.cores.get c).inUse = (s.cores.get c).inUse ∧
    (t.cores.get c).armed = (s.cores.get c).armed) ∧
  t.taps.gainActive = s.taps.gainActive ∧ t.taps.gainOutgoing = s.taps.gainOutgoing

/-- R15, R143, R147, R150, R159: `t` is `s` after its Port U left LOCKED, but for Port U itself, what the transmit
sides sent, and the count of a bad frame that caused it. -/
def State.LostUpstream (s t : State) : Prop :=
  t.chain = { s.chain with
    portU := t.chain.portU
    syncU := t.chain.syncU
    turnaround := .detached
    discard := false
    switchOpen := false
    txD := t.chain.txD } ∧
  (s.hold.condition = .running →
    t.hold = { s.hold with link := true, state := .held, condition := .isolated } ∧
    t.level = { s.level with hold := 1024 } ∧ s.MemoriesCleared t ∧
    ∀ f, t.guards.get f =
      if (s.guards.get f).enable then { s.guards.get f with run := 0, prevPeak := 0, settle := 0 }
      else s.guards.get f) ∧
  (s.hold.condition ≠ .running →
    t.hold = { s.hold with link := true } ∧ t.level = s.level ∧ t.guards = s.guards ∧
    t.pickups = s.pickups ∧ t.buffer = s.buffer ∧ t.delay = s.delay ∧ t.cores = s.cores ∧
    t.taps = s.taps) ∧
  t.lane = { s.lane with contexts := Bank.fill 16 none, sent := 0 } ∧
  t.events = { s.events with
    latch := t.events.latch
    badU := t.events.badU
    broken := min top32 (s.events.broken + s.lane.contexts.count Option.isSome) } ∧
  t.events.latched .chainU = true ∧
  (t.events.latched .holdEntered = true ↔ s.events.latched .holdEntered = true ∨
    s.hold.condition = .running ∧ (s.hold.state = .running ∨ s.hold.state = .resuming)) ∧
  (t.events.latched .laneBroken = true ↔ s.events.latched .laneBroken = true ∨
    0 < s.lane.contexts.count Option.isSome) ∧
  (∀ e, e ∉ [Event.chainU, .holdEntered, .laneBroken, .badFrame] → t.events.latched e = s.events.latched e) ∧
  t.scenes = s.scenes ∧ t.check = s.check ∧ t.cue = s.cue ∧ t.pattern = s.pattern ∧ t.pending = s.pending

/-! ## What a handled frame period leaves -/

/-- R18: the blocks that a computation moves stand in `t` as in `s`. -/
def State.SameBlocks (s t : State) : Prop :=
  t.level = s.level ∧ t.pickups = s.pickups ∧ t.delay = s.delay ∧ t.taps = s.taps ∧ t.cores = s.cores ∧
  t.scenes = s.scenes ∧ t.check = s.check ∧ t.cue = s.cue ∧ t.guards = s.guards ∧ t.hold = s.hold

/-- R18, R152: `t` is left by the frame period that handles outbound frame `n` in `s`: in RUNNING its blocks
stand as computation `n - 8` leaves them, and else no computation runs. -/
def State.PacedTo (s : State) (n : FrameNo) (t : State) : Prop :=
  (s.hold.condition = .running → (s.compute (n - 8)).SameBlocks t) ∧
  (s.hold.condition ≠ .running → s.SameBlocks t)

/-- R18, R156: the events that the loss of frame `n - 8` leaves and, in RUNNING, computation `n - 8` after it: those of
the frame period of outbound frame `n` before anything is written or read. -/
def State.pacedEvents (s : State) (n : FrameNo) : Events :=
  let lost := s.takeLoss (n - 8)
  if s.hold.condition = .running then (lost.compute (n - 8)).events else lost.events

/-- R10, R156, R191: the events that the reading of return frame `f` leaves: those of its segment, which is taken unless
its loss was taken before, and those of the checker's word. -/
def State.readEvents (s : State) (f : Frame) : Events :=
  if s.lane.record.get (turnOf f.number) = some ⟨f.number, false⟩ then (s.checkPattern f).events
  else (((s.setRecord f.number true).takeSegment f.number f.segment).checkPattern f).events

/-- R10, R12, R156, R191: the events that the frame period of the written outbound frame `g` leaves in `t`, where
`before` are those that its pacing and its clash tests left: they stand, but in END the part reads `g` after them. -/
def State.HandledEvents (s : State) (before : Events) (g : Frame) (t : State) : Prop :=
  t.events = if s.chain.turnaround = .chainEnd
    then ({ s.takeLoss (g.number - 8) with events := before } : State).readEvents g else before

/-- R163: an own turn written without a clash. `ready` are the READY replies before the write, `sent` the
segments of the oldest already sent, `arrived` and `written` the lane segment before and after it. -/
def State.OwnTurnSends (ready : List Reply) (sent : Nat) (arrived written : Segment) (t : State) : Prop :=
  (ready = [] → written = arrived ∧ t.lane.ready = [] ∧ t.lane.sent = sent) ∧
  ∀ r rest, ready = r :: rest → written = r.segment sent ∧
    (r.segments ≤ sent + 1 → t.lane.ready = rest ∧ t.lane.sent = 0) ∧
    (sent + 1 < r.segments → t.lane.ready = ready ∧ t.lane.sent = sent + 1)

/-- R11, R13: `d` is left of chain record `c` by the frame period that handles outbound frame `n`, but for Port U, the
numbers and what was sent: Port D, the turnaround state and the thresholds stay, the first frame after a switch settles
t, mark or no mark (log 10), and the sixteenth frame under the mark clears it. The count moves under the mark alone
(log 11). -/
def Chain.HandledTo (c : Chain) (n : FrameNo) (d : Chain) : Prop :=
  d = { c with
    portU := d.portU, syncU := d.syncU, counter := d.counter, expected := d.expected, txU := d.txU, txD := d.txD
    discard := d.discard, switchNo := d.switchNo, switchOpen := d.switchOpen, sinceSwitch := d.sinceSwitch } ∧
  d.switchNo = (if c.switchOpen then n else c.switchNo) ∧ d.switchOpen = false ∧
  d.sinceSwitch = (if c.discard then min 16 (c.sinceSwitch + 1) else c.sinceSwitch) ∧
  (d.discard = true ↔ c.discard = true ∧ c.sinceSwitch + 1 < 16)

/-- R10, R12, R40, R41, R156, R164, R191: the lane, the pattern unit and the pickup frame buffer that the frame period
of the written outbound frame `g` leaves in `t`. The loss of frame `n - 8` is taken; in END the part reads `g`, turned
around, as its own return pass: in RUNNING its buffer entry is filled, its segment is taken unless its loss was taken
before, and the checker takes its word. `ready` and `sent` are the own turn's (`State.OwnTurnSends`). -/
def State.ReadsOwn (s : State) (g : Frame) (t : State) : Prop :=
  let n := g.number
  let lost := s.takeLoss (n - 8)
  let reads : Prop := s.chain.turnaround = .chainEnd
  let known : Prop := s.lane.record.get (turnOf n) = some ⟨n, false⟩
  (reads → ¬known → t.lane.record.get (turnOf n) = some ⟨n, true⟩ ∧
    t.lane = { ((lost.setRecord n true).takeSegment n g.segment).lane with
      ready := t.lane.ready, sent := t.lane.sent }) ∧
  (¬reads ∨ known → t.lane = { lost.lane with ready := t.lane.ready, sent := t.lane.sent }) ∧
  (reads → t.pattern = s.pattern.generate.take n (g.slots.get s.pattern.chkSlot)) ∧
  (¬reads → t.pattern = s.pattern.generate) ∧
  (reads → s.hold.condition = .running →
    (t.buffer.get (turnOf n)).valid = true ∧ (t.buffer.get (turnOf n)).tag = n ∧
    (∀ i, (t.buffer.get (turnOf n)).samples.get i =
      match (s.pickups.get i).slot with
      | some x => g.slots.get x
      | none => 0) ∧
    ∀ i, i ≠ turnOf n → t.buffer.get i = s.buffer.get i) ∧
  (¬reads ∨ s.hold.condition ≠ .running → t.buffer = s.buffer)

/-- R9, R10, R12, R13, R18, R30, R152, R163, R165, R166, R190: member `s`, its port and its condition settled, handles
good outbound frame `f` and leaves `t`: it paces computation `n - 8`, sends `g` on Port D and in END `g` turned around
on Port U, and reads that copy. `g` is `f` with the part's octet, its feeds' slots, its pattern word and, in an own
turn, its segment; where another node has written in its place, with what that node wrote (log 14). The octet's flags
are those that stand after the computation, ADDRESS_CLASH among the latches. The events are those of the pacing, of the
clash and of that reading, and no other (`State.HandledEvents`). A reply that became READY after a node reset is sent in
the first own turn (log 34). -/
def State.HandlesAs (s : State) (f g : Frame) (t : State) : Prop :=
  s.PacedTo f.number t ∧ s.ReadsOwn g t ∧ s.chain.HandledTo f.number t.chain ∧
  t.chain.txD = some g.octets ∧
  (s.chain.turnaround = .chainEnd → t.chain.txU =
    some ({ g with ret := true, turned := true, turner := s.chain.address } : Frame).octets) ∧
  (s.chain.turnaround ≠ .chainEnd → t.chain.txU = s.chain.txU) ∧
  g.number = f.number ∧ g.ret = false ∧ g.turned = f.turned ∧ g.turner = f.turner ∧
  (∀ a, a ≠ s.chain.address → g.roll.get a = f.roll.get a) ∧
  ((f.roll.get s.chain.address).getLsbD 7 = true →
    g.roll.get s.chain.address = f.roll.get s.chain.address) ∧
  ((f.roll.get s.chain.address).getLsbD 7 = false →
    (g.roll.get s.chain.address).getLsbD 7 = true ∧ (g.roll.get s.chain.address).getLsbD 6 = false) ∧
  (∀ x, (∀ i, (s.level.feeds.get i).slot ≠ some x) → (s.pattern.genOn && s.pattern.genSlot == x) = false →
    g.slots.get x = f.slots.get x) ∧
  (s.pattern.genOn = true → g.slots.get s.pattern.genSlot = streamWord s.pattern.history) ∧
  (s.SlotLaw → ∀ i x, (s.level.feeds.get i).slot = some x →
    (s.hold.condition = .quiet → g.slots.get x = 0) ∧
    (s.hold.condition = .running → g.slots.get x = (s.computeOuts (f.number - 8)).get i)) ∧
  let paced := s.paceFrame f.number
  let ready := paced.lane.ready
  let own : Prop := turnOf f.number = s.chain.address
  let clash : Prop := (f.roll.get s.chain.address).getLsbD 7 = true ∨ own ∧ f.segment.mark ≠ 0
  ((f.roll.get s.chain.address).getLsbD 7 = false →
    (clash → g.roll.get s.chain.address = (paced.latch .addressClash).rollCall) ∧
    (¬clash → g.roll.get s.chain.address = paced.rollCall)) ∧
  (clash → s.HandledEvents ((s.pacedEvents f.number).set .addressClash) g t) ∧
  (¬clash → s.HandledEvents (s.pacedEvents f.number) g t) ∧
  (clash → g.segment = f.segment ∧ t.events.latched .addressClash = true ∧
    (own ∨ 0 < s.lane.sent → t.lane.ready = ready.drop 1 ∧ t.lane.sent = 0) ∧
    (¬own → s.lane.sent = 0 → t.lane.ready = ready ∧ t.lane.sent = 0)) ∧
  (¬clash → ¬own → g.segment = f.segment ∧ t.lane.ready = ready ∧ t.lane.sent = s.lane.sent) ∧
  (¬clash → own → State.OwnTurnSends ready s.lane.sent f.segment g.segment t)

/-- R137, R138: an enabled feed whose rise run reaches its rise count at a tick with peak `p` is cut; `moved` says
that its stage moved. -/
abbrev Guard.IsCut (g : Guard) (moved : Bool) (p : Nat) : Prop :=
  g.enable = true ∧
    g.rise ≤ (if g.prevPeak + g.prevPeak / 16 < p ∧ gain g.floorCode ≤ p ∧
      (if moved then 0 else min 2 (g.settle + 1)) = 2 then min 64 (g.run + 1) else 0)

end Sys2Proof.Machine
end

