-- ==== Sys2Proof/Certificates/Slice0/Obligations.lean ====
section
/-!
DEFINITION. The statements for the provers. Each docstring names the rules a statement formalises.
-/

open Sys2Proof Sys2Proof.Machine

/-! ## Steps, resets and laws -/

/-- The model's queue (log 2): the front command runs on the queue's rest, and an empty queue idles. -/
def Obligations.StepTakesFrontOrIdles : Prop :=
  (∀ (c : Instr) (rest : List Instr) (s : State), s.pending = c :: rest →
    step s = exec c { s with pending := rest }) ∧
  (∀ s : State, s.pending = [] → step s = .next s)

/-- No command stops the block, none touches the queue of waiting commands, and the role and the address
change at power-on reset alone (R1). -/
def Obligations.CommandsAnswerNextKeepingRole : Prop :=
  ∀ (c : Instr) (s : State), ∃ t, exec c s = .next t ∧ t.pending = s.pending ∧
    ((∀ lead a, c ≠ .powerOnReset lead a) →
      t.chain.leader = s.chain.leader ∧ t.chain.address = s.chain.address)

/-- R154: while RST_N is low no command but the rise of RST_N has an effect; the level others give HOLD_N is an
operand (log 5). The fall of RST_N silences both ports and releases HOLD_N. -/
def Obligations.HeldResetStopsEveryCommand : Prop :=
  (∀ (c : Instr) (s : State), s.pins.rstLow = true → (∀ lead a, c ≠ .powerOnReset lead a) →
    c ≠ .powerOnResetHeld → ∃ b, exec c s = .next { s with pins := ⟨true, b⟩ }) ∧
  (∀ s : State, ∃ t, exec .powerOnResetHeld s = .next t ∧ t.pins.rstLow = true ∧ t.chain.txU = none ∧
    t.chain.txD = none ∧ t.txActiveU = false ∧ t.txActiveD = false ∧ t.drivesHoldN = false ∧
    t = { s with
      pins := { s.pins with rstLow := true }
      chain := { s.chain with txU := none, txD := none } })

/-- R19, R154 and the reset table of each block: POWER_ON_RESET from any state. -/
def Obligations.PowerOnResetGivesResetValues : Prop :=
  ∀ (lead : Bool) (a : Fin 16) (s : State), ∃ t, exec (.powerOnReset lead a) s = .next t ∧
    t.pins = ⟨false, s.pins.holdPulled⟩ ∧ t.pending = s.pending ∧ t.BlocksReset ∧
    t.chain.leader = lead ∧ t.chain.address = a ∧
    t.chain.portU = ⟨.down, 0, 0⟩ ∧ t.chain.portD = ⟨.down, 0, 0⟩ ∧ t.chain.lockG = 32 ∧
    t.chain.lockB = 8 ∧ t.chain.counter = 0 ∧ t.chain.expected = 0 ∧
    t.chain.turnaround = (if lead then .chainEnd else .detached) ∧ t.chain.discard = false ∧
    t.chain.switchNo = 0 ∧ t.chain.sinceSwitch = 0 ∧
    t.hold = ⟨false, false, false, true, !lead, .held, if lead then .running else .isolated⟩ ∧
    t.drivesHoldN = false

/-- R153, R155: NODE_RESET resets every block but the Chain Interface in every condition, WAKE in QUIET alone;
both are taken whether or not a reply entry is FREE, and neither replies. -/
def Obligations.NodeResetAndWakeReset : Prop :=
  ∀ (s : State) (e : Entry) (rest : List Entry), s.pins.rstLow = false → s.lane.queue = e :: rest →
    (e.kind = 2 → ∃ t, exec (.nodeReset .queued) s = .next t ∧ s.NodeResetTo t) ∧
    (e.kind = 4 → s.hold.condition = .quiet →
      ∃ t, exec (.wake .queued) s = .next t ∧ s.NodeResetTo t) ∧
    (e.kind = 4 → s.hold.condition ≠ .quiet → exec (.wake .queued) s = .next (s.popQueue rest))

/-- Every reset state has every law. -/
def Obligations.ResetStatesAreLawful : Prop :=
  State.reset.Lawful ∧ ∀ (lead : Bool) (a : Fin 16), (State.powerOn lead a).Lawful

/-- R1, R11, R13, R150, R154: the chain's law is kept by every step. -/
def Obligations.StepKeepsChainLaw : Prop :=
  ∀ s t : State, s.ChainLaw → step s = .next t → t.ChainLaw

/-- R20: every code stays within 0..1024 and every record within its ranges. -/
def Obligations.StepKeepsCodeLaw : Prop :=
  ∀ s t : State, s.CodeLaw → step s = .next t → t.CodeLaw

/-- R147, R36: the hold level each hold state stands with is kept by every step. -/
def Obligations.StepKeepsHoldLaw : Prop :=
  ∀ s t : State, s.HoldLaw → step s = .next t → t.HoldLaw

/-- R158, R161, R163: the queues' law is kept by every step. -/
def Obligations.StepKeepsLaneLaw : Prop :=
  ∀ s t : State, s.LaneLaw → step s = .next t → t.LaneLaw

/-- R75, R93, R124: canonical memories, lawful cores with every absorption below unity, and the crossfade weight
within 0..8192 are kept by every step. -/
def Obligations.StepKeepsMemoryLaw : Prop :=
  ∀ s t : State, s.MemoryLaw → s.SceneLaw → step s = .next t → t.MemoryLaw

/-- R99, R123: the tie of the scene states with the Cue Unit and the Check Unit is kept by every step. -/
def Obligations.StepKeepsSceneLaw : Prop :=
  ∀ s t : State, s.SceneLaw → step s = .next t → t.SceneLaw

/-- R99, R77, R105: a READY, CUED, ACTIVE or OUTGOING scene passes the tests of R109 at every moment. -/
def Obligations.StepKeepsCheckedScenes : Prop :=
  ∀ s t : State, s.SceneLaw → s.CheckedLaw → step s = .next t → t.CheckedLaw

/-- R178, R188, R191: slots stay apart, counters stay within their widths. -/
def Obligations.StepKeepsSlotAndCountLaws : Prop :=
  ∀ s t : State, s.SlotLaw → s.CountLaw → step s = .next t → t.SlotLaw ∧ t.CountLaw

/-- R186 to R189: but for the resets, a latch is cleared by EVENTS_CLEAR alone, a mask changed by EVENTS_MASK
alone, a pattern count lowered by PATTERN_READ alone, and no other counter is ever lowered. -/
def Obligations.LatchesAndCountersPersist : Prop :=
  ∀ (c : Instr) (s t : State), s.events.Lawful → exec c s = .next t →
    (∀ lead a, c ≠ .powerOnReset lead a) → (∀ k, c ≠ .nodeReset k) → (∀ k, c ≠ .wake k) →
    ((∀ k, c ≠ .eventsClear k) → s.events.latch &&& t.events.latch = s.events.latch) ∧
    ((∀ k, c ≠ .eventsMask k) → t.events.mask = s.events.mask) ∧
    s.events.badU ≤ t.events.badU ∧ s.events.badD ≤ t.events.badD ∧ s.events.broken ≤ t.events.broken ∧
    s.events.badMessages ≤ t.events.badMessages ∧ s.events.dropped ≤ t.events.dropped ∧
    s.events.concealed ≤ t.events.concealed ∧ s.events.feedClips ≤ t.events.feedClips ∧
    s.events.coreClips ≤ t.events.coreClips ∧
    ((∀ k, c ≠ .patternRead k) →
      s.events.patWords ≤ t.events.patWords ∧ s.events.patBits ≤ t.events.patBits)

/-! ## Encodings -/

/-- R3, R4, R168: the 415 octets of a frame give back the frame, good at the port of its direction and bad at the
other; its first octets carry the number, its last two the check. -/
def Obligations.FrameOctetsRoundTrip : Prop :=
  ∀ f : Frame, f.octets.length = 415 ∧ at32 f.octets 0 = f.number ∧
    at16 f.octets 413 = (crc16 (f.octets.take 413)).toNat ∧
    goodFrame? f.ret f.octets = some f ∧ goodFrame? (!f.ret) f.octets = none

/-- R57, R172: a tap record lies in 8 octets as the table lays it out, and a stored record comes back whole. -/
def Obligations.TapRecordLayout : Prop :=
  (∀ t : Tap, (tapOctets t).length = 8 ∧
    (t.delay ≤ 32767 → t.depth ≤ 7 → ∀ p q : List Byte, tapAt (p ++ tapOctets t ++ q) p.length = t)) ∧
  (∀ a b c d e f g h : Byte,
    tapAt [a, b, c, d, e, f, g, h] 0 =
      ⟨a, min 32767 (b.toNat * 256 + c.toNat), d ++ e, f, g, min 7 h.toNat⟩)

/-- R166, R169, R187: each flag of the roll-call octet at its bit, as the state it is formed from has it. -/
def Obligations.RollCallOctetShowsFlags : Prop :=
  ∀ s : State, s.rollCall.getLsbD 7 = true ∧ s.rollCall.getLsbD 6 = s.chain.leader ∧
    (s.rollCall.getLsbD 5 = true ↔
      ∃ i < 23, s.events.latch.getLsbD i = true ∧ s.events.mask.getLsbD i = false) ∧
    s.rollCall.getLsbD 4 = s.lane.backpressure ∧
    (s.rollCall.getLsbD 3 = true ↔ s.hold.state ≠ .running) ∧
    (s.rollCall.getLsbD 2 = true ↔ s.cue.state = .fading ∨ s.cue.state = .fadingArmed) ∧
    (s.rollCall.getLsbD 1 = true ↔ s.hold.condition = .quiet) ∧
    (s.rollCall.getLsbD 0 = true ↔ ∃ f, 0 < (s.guards.get f).trim)

/-- R157 to R160, R170, R171: the segments of a message for the part or for all nodes, sent in successive turns of
its source, are reassembled into exactly that command, with its broadcast mark, offered to the command queue. -/
def Obligations.SegmentsReassembleTheMessage : Prop :=
  ∀ (s : State) (dest kind tag : Byte) (params : List Byte) (f : FrameNo),
    dest = octet s.chain.address.val ∨ dest = 255 → kind.toNat < 128 → params.length ≤ 441 →
    turnOf f ≠ s.chain.address → s.lane.contexts.get (turnOf f) = none →
    (List.range (segmentsNeeded params.length)).foldl
        (fun t i => t.takeSegment (f + BitVec.ofNat 32 (16 * i))
          (messageSegment (messageOctets dest kind tag params) (segmentsNeeded params.length) i)) s =
      s.offer (turnOf f) kind tag params (dest == 255)

/-- R156, R158 to R160: what a segment of frame `f`, or its loss, does to the context of its source, and how a
complete message is judged. The part's own segments are not reassembled. A segment that breaks a message is judged
again by the IDLE context it leaves. That a loss breaks a message whatever frame it expects is log 13. -/
def Obligations.LaneBreaksAndDiscardsMessages : Prop :=
  (∀ (s : State) (f : FrameNo) (seg : Segment),
    let i := turnOf f
    let p := seg.payload.items
    let forPart : Prop := p.getD 0 0 = 255 ∨ p.getD 0 0 = octet s.chain.address.val
    let held := fun a : Option Assembly =>
      ({ s with lane := { s.lane with contexts := s.lane.contexts.set i a } } : State)
    let broken : State := { held none with events := { s.events with
      latch := s.events.latch ||| Event.word .laneBroken, broken := min top32 (s.events.broken + 1) } }
    (i = s.chain.address → s.takeSegment f seg = s ∧ s.loseSegment f = s) ∧
    (i ≠ s.chain.address → s.lane.contexts.get i = none →
      s.loseSegment f = s ∧
      (seg.mark ≠ 1 ∧ seg.mark ≠ 2 ∨ ¬forPart → s.takeSegment f seg = s) ∧
      (forPart → seg.mark = 1 →
        s.takeSegment f seg = s.completeMessage i p 1 (at16 p 3) (p.getD 0 0 == 255)) ∧
      (forPart → seg.mark = 2 → 441 < at16 p 3 → s.takeSegment f seg = broken) ∧
      (forPart → seg.mark = 2 → at16 p 3 ≤ 441 →
        s.takeSegment f seg = held (some ⟨p, 1, at16 p 3, p.getD 0 0 == 255, f + 16⟩))) ∧
    (∀ a, i ≠ s.chain.address → s.lane.contexts.get i = some a →
      s.loseSegment f = broken ∧
      (f ≠ a.expected ∨ seg.mark ≠ 3 ∧ seg.mark ≠ 4 ∨
          seg.mark = 3 ∧ (segmentsNeeded a.declared ≤ a.segments ∨ 64 ≤ a.segments) →
        s.takeSegment f seg = broken.takeSegment f seg) ∧
      (f = a.expected → seg.mark = 3 → a.segments < segmentsNeeded a.declared → a.segments < 64 →
        s.takeSegment f seg = held (some { a with
          octets := a.octets ++ p, segments := a.segments + 1, expected := f + 16 })) ∧
      (f = a.expected → seg.mark = 4 →
        s.takeSegment f seg =
          (held none).completeMessage i (a.octets ++ p) (a.segments + 1) a.declared a.broadcast))) ∧
  (∀ (s : State) (i : Fin 16) (octets : List Byte) (segments declared : Nat) (b : Bool),
    let sound : Prop := segments = (declared + 13) / 7 ∧
      at16 octets (declared + 5) = (crc16 (octets.take (declared + 5))).toNat
    (¬sound → s.completeMessage i octets segments declared b = { s with events := { s.events with
      latch := s.events.latch ||| Event.word .messageBad
      badMessages := min top32 (s.events.badMessages + 1) } }) ∧
    (sound → 128 ≤ at8 octets 1 → s.completeMessage i octets segments declared b = s) ∧
    (sound → at8 octets 1 < 128 → s.completeMessage i octets segments declared b =
      s.offer i (octets.getD 1 0) (octets.getD 2 0) ((octets.drop 5).take declared) b)) ∧
  (∀ (s : State) (f : FrameNo),
    (s.lane.record.get (turnOf f) = some ⟨f, true⟩ → s.takeLoss f = s) ∧
    (s.lane.record.get (turnOf f) ≠ some ⟨f, true⟩ → s.takeLoss f =
      ({ s with lane := { s.lane with
        record := s.lane.record.set (turnOf f) (some ⟨f, false⟩) } } : State).loseSegment f))

/-! ## Levels and arithmetic -/

/-- R21, R22: from code to gain, with the properties the rule lists; each entry of the coarse table is
2^23 * 2^(-i/64) rounded to the nearest whole number. -/
def Obligations.AttenuationCodeGivesGain : Prop :=
  (gain 1024 = 0 ∧
    (∀ a < 1024, gain a = (coarse (a % 64) + 2 ^ (a / 64) / 2) / 2 ^ (a / 64)) ∧
    gain 0 = 8388608 ∧ (∀ a b, a ≤ b → b ≤ 1024 → gain b ≤ gain a) ∧
    (∀ q ≤ 15, gain (64 * q) = 2 ^ (23 - q)) ∧ gain 1023 = 129 ∧ (∀ a < 1024, 129 ≤ gain a)) ∧
  (coarseTable.length = 64 ∧ coarse 0 = 8388608 ∧ coarse 8 = 7692387 ∧ coarse 32 = 5931642 ∧
    coarse 63 = 4239977 ∧
    ∀ i < 64, (2 * coarse i - 1) ^ 64 ≤ 2 ^ (1536 - i) ∧ 2 ^ (1536 - i) < (2 * coarse i + 1) ^ 64)

/-- R90: the absorption of every line length and decay time is below unity, and falls as the loss rises. -/
def Obligations.AbsorptionStaysBelowUnity : Prop :=
  (∀ l t, absorption l t ≤ 8387189) ∧ absorptionOfLoss 1 = 8387189 ∧
  (∀ u v, u ≤ v → absorptionOfLoss v ≤ absorptionOfLoss u) ∧
  passLoss 4095 100 = 34824 ∧ absorptionOfLoss 34824 = 23139

/-- R25: every ramp group at a ramp tick, with the worked ramps of the rule. -/
def Obligations.GroupsMoveAtTick : Prop :=
  (∀ (l : Level) (held : Bool) (i : Fin 32),
    let old := l.groups.get i
    let new := (l.tick held).groups.get i
    (old.rate = 0 → new.current = old.target) ∧
    (0 < old.rate → old.target < old.current → new.current = max old.target (old.current - old.rate)) ∧
    (0 < old.rate → old.current < old.target → new.current = min old.target (old.current + old.rate)) ∧
    (old.current = old.target → new.current = old.current) ∧
    new.target = old.target ∧ new.rate = old.rate ∧
    (new.current = old.target → new.phase = .steady) ∧
    (old.target < new.current → new.phase = .rising) ∧
    (new.current < old.target → new.phase = .falling) ∧
    min old.current old.target ≤ new.current ∧ new.current ≤ max old.current old.target) ∧
  ([1, 2, 3, 4, 5].map fun n => (Group.tick^[n] ⟨1024, 0, 255, .rising⟩).current) = [769, 514, 259, 4, 0] ∧
  (∀ n ≤ 1024, (Group.tick^[n] ⟨1024, 0, 1, .rising⟩).current = 1024 - n)

/-- R27, R53, R58 to R61, R63, R64, R66 to R71: what a tap reads, its effective gain with and without a group and
wander, the gain set of a scene by tap index, the sum of a destination over the taps that name it, its rounding, and
the mix of the two running scenes. A tap's gain is bounded by unity and exact without a group, wander never raises its
magnitude, a destination that no tap names keeps 0, and with no scene ACTIVE and no crossfade every destination value
is 0. -/
def Obligations.TapGainsAndValues : Prop :=
  (∀ (g : BitVec 16) (lg : Nat), lg ≤ 8388608 → (baseGain g.toInt lg).natAbs ≤ 8388608) ∧
  (∀ (groups : Bank 32 Group) (g : Int), baseGain g (groupGain groups 255) = g * 256) ∧
  (∀ depth p n t, depth ≤ 7 → 0 < p →
    32768 - (depth * 65535 / 128 : Nat) ≤ wanderFactor depth p n t ∧ wanderFactor depth p n t ≤ 32768) ∧
  (∀ depth p n t e, depth ≤ 7 → (wandered depth p n t e).natAbs ≤ e.natAbs) ∧
  (∀ depth p n t, wandered depth p n t 0 = 0) ∧
  (∀ (source : Tap → Int) (code : Byte) (ts : List Tap) (gs : List Int),
    (∀ t ∈ ts, t.dest ≠ code) → destSum source code ts gs = 0) ∧
  (∀ (s : State) (k : FrameNo) (code : Byte), s.cue.state.fades = false →
    (∀ i, (s.scenes.get i).state ≠ .active) → s.mixed k code = 0) ∧
  (∀ (s : State) (k : FrameNo) (t : Tap),
    (∀ i : Fin 48, t.source.toNat = i.val →
      s.sourceValue k t = ((s.delay.get i).read (((k.toNat : Int) - t.delay) % 32768).toNat).toInt) ∧
    (∀ (c : Fin 4) (l : Fin 8), t.source.toNat = 64 + 8 * c.val + l.val →
      s.sourceValue k t = (s.cores.get c).lineOutput ((s.cores.get c).formInUse s.fadeWeight) l)) ∧
  (∀ (groups : Bank 32 Group) (p n t : Nat) (tap : Tap) (lg : Nat),
    (tap.group = 255 ∧ lg = 8388608 ∨
      ∃ g : Fin 32, tap.group.toNat = g.val ∧ lg = gain (groups.get g).current) →
    let base : Int := (tap.tapGain.toInt * lg + 16384) / 32768
    (tap.depth = 0 ∨ p = 0 → effectiveGain groups p n t tap = base) ∧
    (0 < tap.depth → 0 < p →
      let phase := (n + t % 8 * p / 8) % p
      let h := 65536 * phase / p
      let tri : Int := if h < 32768 then 2 * (h : Int) - 32768 else 98303 - 2 * (h : Int)
      let factor : Int := 32768 - tap.depth * (tri + 32768) / 128
      effectiveGain groups p n t tap = (base * factor + 16384) / 32768)) ∧
  (∀ (groups : Bank 32 Group) (sc : Scene) (n t : Nat),
    (gainSet groups sc n)[t]? = sc.taps[t]?.map (effectiveGain groups sc.header.wander n t)) ∧
  (∀ (s : State) (k : FrameNo) (code : Byte),
    let value : SceneState → Option (List Int) → Int := fun st gains =>
      match s.sceneIn st with
      | some i => ((((((s.scenes.get i).taps.zip (gains.getD [])).filter fun x => x.1.dest == code).map
          fun x => s.sourceValue k x.1 * x.2).sum) + 4194304) / 8388608
      | none => 0
    let old := value .outgoing s.taps.gainOutgoing
    let new := value .active s.taps.gainActive
    (s.cue.state.fades = false → s.mixed k code = new) ∧
    (s.cue.state.fades = true →
      s.mixed k code = (old * (8192 - (s.cue.weight : Int)) + new * s.cue.weight + 4096) / 8192) ∧
    (∀ c l, s.injection k c l = s.mixed k (octet (64 + 8 * c.val + l.val))))

/-- R31 to R34, R36, R73: the output stage of a computation: each feed's total of the trim and the hold level that the
computation's tick has left and the guard trim that it began with; the value scaled, rounded and saturated; FEED_CLIP
and its count of the feeds that saturate. With the hold level at 1024 every feed value is 0; so is it in every frame of
a part that is HELD once the frame's computation has run, or that computes nothing. -/
def Obligations.OutputStageScalesOrMutes : Prop :=
  (∀ (s : State) (k : FrameNo) (f : Fin 32), 1024 ≤ s.level.hold → (s.feedOuts k).get f = 0) ∧
  (∀ (s : State) (n : FrameNo) (f : Fin 32), s.HoldLaw → (s.paceFrame n).hold.state = .held →
    (s.paceOuts n).get f = 0) ∧
  (∀ (s : State) (n : FrameNo) (f : Fin 32), s.hold.condition ≠ .running → (s.paceOuts n).get f = 0) ∧
  (∀ (s : State) (k : FrameNo),
    let t := s.compute k
    let p := (s.beginComputation k).runPickups k
    let total : Fin 32 → Nat := fun f =>
      min 1024 ((t.level.feeds.get f).trim + (s.guards.get f).trim + t.level.hold)
    let scaled : Fin 32 → Int := fun f => (p.mixed k (octet f.val) * gain (total f) + 4194304) / 8388608
    let clips := ((List.finRange 32).filter fun f =>
      decide (scaled f < -8388608 ∨ 8388607 < scaled f)).length
    (∀ f, ((s.computeOuts k).get f).toInt = max (-8388608) (min 8388607 (scaled f))) ∧
    t.events.feedClips = min top32 (s.events.feedClips + clips) ∧
    (t.events.latched .feedClip = true ↔ s.events.latched .feedClip = true ∨ 0 < clips))

/-- R70, R83, R84, R93: a crossfade, of values and of core targets, lies between its ends and reaches them; damping lies
between the new and the held sample; a line's output never exceeds the sample it absorbs. -/
def Obligations.CrossfadeAndCoreBounds : Prop :=
  (∀ (old new : Int) (w : Nat), w ≤ 8192 →
    min old new ≤ crossfade old new w ∧ crossfade old new w ≤ max old new) ∧
  (∀ old new : Int, crossfade old new 0 = old ∧ crossfade old new 8192 = new) ∧
  (∀ (old new w : Nat), w ≤ 8192 →
    min old new ≤ crossfadeNat old new w ∧ crossfadeNat old new w ≤ max old new) ∧
  (∀ old new : Nat, crossfadeNat old new 0 = old ∧ crossfadeNat old new 8192 = new) ∧
  (∀ (d : Nat) (y z : Int), d ≤ 240 → min y z ≤ smooth d y z ∧ smooth d y z ≤ max y z) ∧
  (∀ (g : Nat) (z : Int), g ≤ 8387189 → (scale23 ((g : Int) * z)).natAbs ≤ z.natAbs)

/-- R47 to R51: one pickup at a ramp tick, and the ramp its level follows. -/
def Obligations.GateMovesAtTick : Prop :=
  (∀ p : Pickup,
    (p.enable = false → p.tick = { p with tickPeak := p.peak, peak := 0 }) ∧
    (p.enable = true →
      p.tick = { p with
        tickPeak := p.peak
        peak := 0
        gate := p.tick.gate
        hangCount := p.tick.hangCount
        level := p.tick.level } ∧
      (p.gate = .closed → p.tick.gate = if gain p.openCode ≤ p.peak then .opened else .closed) ∧
      (p.gate = .opened → p.tick.gate =
        if gain p.closeCode ≤ p.peak then .opened else if 0 < p.hang then .hanging else .closed) ∧
      (p.gate = .hanging → p.tick.gate =
        if gain p.closeCode ≤ p.peak then .opened else if p.hangCount ≤ 1 then .closed else .hanging) ∧
      p.tick.hangCount =
        (if p.tick.gate = .hanging then (if p.gate = .opened then p.hang else p.hangCount - 1) else 0) ∧
      p.tick.level =
        (if p.tick.gate = .closed then ramp p.level p.floorCode p.release else ramp p.level 0 p.attack))) ∧
  (∀ x goal rate : Nat, ramp x goal 0 = goal ∧
    (0 < rate → goal < x → ramp x goal rate = max goal (x - rate)) ∧
    (0 < rate → x ≤ goal → ramp x goal rate = min goal (x + rate)))

/-- R132, R135 to R141: one enabled feed at a ramp tick with peak `p`, where `moved` says that the stage moved, its
parameters kept; and the whole
Howl Guard at a tick: every feed, the peaks taken, HOWL_CUT, HOWL_LIMIT and the escalation to GUARD. That HOWL_LIMIT's
condition begins over a whole tick is log 17; that R136 alone gives the settle count, after a return from ISOLATED
too, is log 30. -/
def Obligations.GuardMovesAtTick : Prop :=
  (∀ (g : Guard) (moved : Bool) (p : Nat), g.enable = false → g.tick moved p = g) ∧
  (∀ (g : Guard) (moved : Bool) (p : Nat), g.enable = true →
    let settle := if moved then 0 else min 2 (g.settle + 1)
    let rising := p > g.prevPeak + g.prevPeak / 16 ∧ gain g.floorCode ≤ p ∧ settle = 2
    let run := if rising then min 64 (g.run + 1) else 0
    (g.tick moved p).settle = settle ∧ (g.tick moved p).prevPeak = p ∧
    g.tick moved p = { g with
      trim := (g.tick moved p).trim
      run := (g.tick moved p).run
      state := (g.tick moved p).state
      timer := (g.tick moved p).timer
      count := (g.tick moved p).count
      settle := (g.tick moved p).settle
      prevPeak := (g.tick moved p).prevPeak } ∧
    (run < g.rise → g.state ≠ .cut → (g.tick moved p).timer = g.timer) ∧
    (run < g.rise → g.state = .watch ∨ g.state = .cut ∧ 1 < g.timer → (g.tick moved p).count = g.count) ∧
    (run < g.rise → g.state = .cut → g.timer ≤ 1 → g.trim = 0 → (g.tick moved p).count = 0) ∧
    (g.rise ≤ run →
      (g.tick moved p).trim = min g.limit (g.trim + g.cutStep) ∧ (g.tick moved p).run = 0 ∧
      (g.tick moved p).state = .cut ∧ (g.tick moved p).timer = g.quietHold ∧
      (g.tick moved p).count = g.count) ∧
    (run < g.rise → (g.tick moved p).run = run) ∧
    (run < g.rise → g.state = .watch →
      (g.tick moved p).state = .watch ∧ (g.tick moved p).trim = g.trim) ∧
    (run < g.rise → g.state = .cut → 1 < g.timer →
      (g.tick moved p).state = .cut ∧ (g.tick moved p).timer = g.timer - 1 ∧
      (g.tick moved p).trim = g.trim) ∧
    (run < g.rise → g.state = .cut → g.timer ≤ 1 →
      (g.tick moved p).state = (if g.trim = 0 then .watch else .recover) ∧
      (g.tick moved p).timer = 0 ∧ (g.tick moved p).trim = g.trim ∧
      (g.trim ≠ 0 → (g.tick moved p).count = g.interval)) ∧
    (run < g.rise → g.state = .recover → 1 < g.count →
      (g.tick moved p).state = .recover ∧ (g.tick moved p).count = g.count - 1 ∧
      (g.tick moved p).trim = g.trim) ∧
    (run < g.rise → g.state = .recover → g.count ≤ 1 →
      (g.tick moved p).trim = g.trim - 1 ∧
      (g.tick moved p).state = (if g.trim ≤ 1 then .watch else .recover) ∧
      (g.tick moved p).count = (if g.trim ≤ 1 then 0 else g.interval))) ∧
  (∀ (s : State) (moved : Fin 32 → Bool),
    let t := s.tickGuard moved
    let cut : Fin 32 → Prop := fun f => (s.guards.get f).IsCut (moved f) (s.taps.peaks.get f)
    let found : Fin 32 → Prop := fun f => cut f ∧ (s.guards.get f).limit ≤ (s.guards.get f).trim
    (∀ f, t.guards.get f = (s.guards.get f).tick (moved f) (s.taps.peaks.get f)) ∧
    (∀ f, t.taps.peaks.get f = 0) ∧
    (t.hold.guard = true ↔ s.hold.guard = true ∨ ∃ f, found f ∧ (s.guards.get f).escalate = true) ∧
    (t.events.latched .howlCut = true ↔ s.events.latched .howlCut = true ∨ ∃ f, cut f) ∧
    (t.events.latched .howlLimit = true ↔ s.events.latched .howlLimit = true ∨ (∃ f, found f) ∨
      s.liveHowlLimit = false ∧ t.liveHowlLimit = true) ∧
    (s.liveHowlLimit = true ↔ ∃ f, (s.guards.get f).enable = true ∧ (s.guards.get f).state ≠ .watch ∧
      (s.guards.get f).trim = (s.guards.get f).limit) ∧
    t = { s with
      guards := t.guards
      taps := { s.taps with peaks := t.taps.peaks }
      hold := { s.hold with guard := t.hold.guard }
      events := { s.events with latch := t.events.latch } } ∧
    (∀ e, e ≠ .howlCut → e ≠ .howlLimit → t.events.latched e = s.events.latched e))

/-- R80, R82 to R86, R93: a core in a computation, by its state. UNSHAPED: nothing. SHAPING: its next 2,048 positions
cleared. SHAPED: every line smoothed, absorbed, mixed with its injection, written and advanced; a value that does
not fit 24 bits is counted, in the whole computation too. `w` is the crossfade weight, none when no crossfade runs. -/
def Obligations.CoresClearOrRunInAComputation : Prop :=
  (∀ (s : State) (k : FrameNo) (c : Fin 4), let b := s.beginComputation k
    (s.compute k).cores.get c =
      (b.cores.get c).compute b.fadeWeight fun l => (b.runPickups k).injection k c l) ∧
  (∀ (s : State) (k : FrameNo), let b := s.beginComputation k
    let n := ((List.finRange 4).map fun c => if (b.cores.get c).state = .shaped
      then (b.cores.get c).clips ((b.cores.get c).formInUse b.fadeWeight)
        (fun l => (b.runPickups k).injection k c l) else 0).sum
    (s.compute k).events.coreClips = min top32 (s.events.coreClips + n) ∧
    ((s.compute k).events.latched .coreClip = true ↔ s.events.latched .coreClip = true ∨ 0 < n)) ∧
  (∀ (c : RevCore) (w : Option Nat) (inj : Fin 8 → Int),
    let t := c.compute w inj
    let u := c.formInUse w
    (w = none → u = c.active) ∧
    (∀ v, w = some v → (∀ l, u.absorption.get l =
        (c.outgoing.absorption.get l * (8192 - v) + c.active.absorption.get l * v + 4096) / 8192) ∧
      u.damping = (c.outgoing.damping * (8192 - v) + c.active.damping * v + 4096) / 8192) ∧
    (c.state ≠ .shaped → ∀ l, c.lineOutput u l = 0) ∧
    (c.state = .unshaped → t = c) ∧
    (c.state = .shaping →
      t = { c with
        mem := t.mem
        clearCount := min 8 (c.clearCount + 1)
        state := if 8 ≤ c.clearCount + 1 then .shaped else .shaping } ∧
      ∀ p, t.mem.read p =
        if 2048 * c.clearCount ≤ p ∧ p < 2048 * c.clearCount + 2048 then 0 else c.mem.read p) ∧
    (c.state = .shaped → c.Lawful → (∀ v ∈ w, v ≤ 8192) →
      let place : Fin 8 → Nat := fun l => (c.lengths.items.take l.val).sum + c.index.get l
      let y : Fin 8 → Int := fun l => (c.mem.read (place l)).toInt
      let z : Fin 8 → Int := fun l =>
        y l + ((u.damping : Int) * ((c.damp.get l).toInt - y l) + 128) / 256
      let a : Fin 8 → Int := fun l => ((u.absorption.get l : Int) * z l + 4194304) / 8388608
      let share : Int := (((List.finRange 8).map a).sum + 2) / 4
      t = { c with mem := t.mem, index := t.index, damp := t.damp, inUse := u } ∧
      (∀ l, c.lineOutput u l = a l ∧ (t.damp.get l).toInt = z l ∧
        t.index.get l = (if c.index.get l + 1 = c.lengths.get l then 0 else c.index.get l + 1) ∧
        (t.mem.read (place l)).toInt = max (-8388608) (min 8388607 (a l - share + inj l))) ∧
      (∀ p, (∀ l, p ≠ place l) → t.mem.read p = c.mem.read p) ∧
      c.clips u inj = ((List.finRange 8).filter fun l =>
        decide (a l - share + inj l < -8388608 ∨ 8388607 < a l - share + inj l)).length)) ∧
  (∀ (s : State) (w : Option Nat) (inj : Fin 4 → Fin 8 → Int),
    let n := ((List.finRange 4).map fun c => if (s.cores.get c).state = .shaped
      then (s.cores.get c).clips ((s.cores.get c).formInUse w) (inj c) else 0).sum
    (s.runCores w inj).events = { s.events with
      latch := if 0 < n then s.events.latch ||| Event.word .coreClip else s.events.latch
      coreClips := min top32 (s.events.coreClips + n) })

/-- R190, R191: the stream's law over the 23 bits of a history and the 24 of its next word, with the two words the rule
gives; the generator's advance; and the checker's taking of `word` from return frame `m`: seeded anew, judged in
SEEKING or in IN_SYNC, with the counts and latches it moves. That the first word after the checker was turned on or
moved seeds it is the mark `seedNext` (log 25). -/
def Obligations.PatternStreamAndChecker : Prop :=
  (∀ (h : BitVec 23),
    let bit : Nat → Bool := fun i => if i < 23 then h.getLsbD (22 - i) else (streamWord h).getLsbD (46 - i)
    (∀ i, 23 ≤ i → i < 47 → bit i = (bit (i - 18) ^^ bit (i - 23))) ∧
    ∀ i < 23, (seedOf (streamWord h)).getLsbD i = (streamWord h).getLsbD i) ∧
  (streamWord (BitVec.allOnes 23) = 0x00003E ∧ streamWord (seedOf 0x00003E) = 0x000FFC) ∧
  (∀ p : Pattern, (p.genOn = false → p.generate = p) ∧
    (p.genOn = true → p.generate = { p with history := seedOf (streamWord p.history) })) ∧
  (∀ (s : State) (f : Frame), let p := s.pattern
    let m := f.number
    let word := f.slots.get p.chkSlot
    let g := (m - p.lastFrame).toNat
    let judges : Prop := p.seedNext = false ∧ 1 ≤ g ∧ g ≤ 16
    let predicted := streamWord ((fun h => seedOf (streamWord h))^[g - 1] p.predictor)
    let seeded : Pattern := { p with
      inSync := false, goodRun := 0, mismatchRun := 0, predictor := seedOf word
      lastFrame := m, seedNext := false }
    let passed : Pattern := { p with predictor := seedOf predicted, lastFrame := m, seedNext := false }
    let t := s.checkPattern f
    (p.chkOn = false → t = s) ∧
    (p.chkOn = true → ¬judges → t = { s with pattern := seeded }) ∧
    (p.chkOn = true → judges → p.inSync = false → word = predicted → t = { s with pattern :=
      if p.goodRun + 1 < 8 then { passed with goodRun := p.goodRun + 1 }
      else { passed with inSync := true, goodRun := 0, mismatchRun := 0 } }) ∧
    (p.chkOn = true → judges → p.inSync = false → word ≠ predicted → t = { s with pattern := { p with
      goodRun := 0, predictor := seedOf word, lastFrame := m, seedNext := false } }) ∧
    (p.chkOn = true → judges → p.inSync = true → word = predicted →
      t = { s with pattern := { passed with mismatchRun := 0 } }) ∧
    (p.chkOn = true → judges → p.inSync = true → word ≠ predicted →
      t.pattern = (if p.mismatchRun + 1 < 8 then { passed with mismatchRun := p.mismatchRun + 1 } else seeded) ∧
      t.events = { s.events with
        latch := t.events.latch
        patWords := min top32 (s.events.patWords + 1)
        patBits := min top40 (s.events.patBits +
          ((List.range 24).filter fun i => word.getLsbD i != predicted.getLsbD i).length) } ∧
      (t.events.latched .patternSyncLost = true ↔
        s.events.latched .patternSyncLost = true ∨ 8 ≤ p.mismatchRun + 1) ∧
      (s.CountLaw → (t.events.latched .patternAlarm = true ↔ s.events.latched .patternAlarm = true ∨
        s.events.patWords < top32 ∧ s.events.patWords + 1 = p.threshold)) ∧
      t = { s with pattern := t.pattern, events := t.events }))

/-- R42, R43, R46, R52, R53: in a computation each pickup's input is its buffer sample when the entry is found, its
held sample when the computation is concealed, and 0 without a slot; a concealed one is counted and latches
LATE_RETURN, in the whole computation too. The gated sample is the input times the gate level's gain, rounded and
saturated. Each delay line is written at one position, where a delay of 0 reads the gated input back; every other
position keeps its sample, and no buffer entry changes. -/
def Obligations.DelayLinesKeepHistory : Prop :=
  (∀ (s : State) (k : FrameNo), let e := s.buffer.get (turnOf k)
    (∀ i, ((s.pickups.get i).slot = none → s.inputOf k i = 0) ∧
      ((s.pickups.get i).slot ≠ none → e.valid = true → e.tag = k → s.inputOf k i = e.samples.get i) ∧
      ((s.pickups.get i).slot ≠ none → (e.valid = false ∨ e.tag ≠ k) →
        s.inputOf k i = (s.pickups.get i).held) ∧
      (s.runPickups k).pickups.get i = { s.pickups.get i with
        peak := max (s.pickups.get i).peak (s.inputOf k i).toInt.natAbs
        held := s.inputOf k i }) ∧
    (s.events.Lawful → e.valid = true → e.tag = k → (s.runPickups k).events = s.events) ∧
    ((e.valid = false ∨ e.tag ≠ k) → (s.runPickups k).events = { s.events with
      latch := s.events.latch ||| Event.word .lateReturn
      concealed := min top32 (s.events.concealed + 1) }) ∧
    (s.compute k).events.concealed =
      min top32 (s.events.concealed + if e.valid = true ∧ e.tag = k then 0 else 1) ∧
    ((s.compute k).events.latched .lateReturn = true ↔
      s.events.latched .lateReturn = true ∨ e.valid = false ∨ e.tag ≠ k)) ∧
  (∀ (p : Pickup) (x : Sample), (p.gated x).toInt =
    max (-8388608) (min 8388607 ((x.toInt * (gain p.level : Int) + 4194304) / 8388608))) ∧
  (∀ (s : State) (k : FrameNo) (i : Fin 48), (s.delay.get i).wf = true →
    ((s.runPickups k).delay.get i).wf = true ∧
    ((s.runPickups k).delay.get i).read (k.toNat % 32768) =
      (s.pickups.get i).gated (s.inputOf k i) ∧
    (∀ p, p ≠ k.toNat % 32768 → ((s.runPickups k).delay.get i).read p = (s.delay.get i).read p) ∧
    (s.runPickups k).buffer = s.buffer ∧
    ((s.pickups.get i).level = 0 → (s.pickups.get i).gated (s.inputOf k i) = s.inputOf k i) ∧
    ((s.pickups.get i).level = 1024 → (s.pickups.get i).gated (s.inputOf k i) = 0))

/-- R18, R23, R29, R35, R46, R47, R73, R135, R141, R147: what one computation leaves in the Level Unit, the pickups,
Delay Memory, the guards, the hold state and the events: the moves of a ramp tick when its number is a multiple of 48,
and none of them else. `held` is the hold source set with the sample of HOLD_N that the computation begins with. The
counters that a computation moves, and the cue's latches, are given where their units are; every other event stands.
That HOWL_LIMIT's condition begins over a whole tick is log 17. -/
def Obligations.ComputationMovesUnitsAtTicks : Prop :=
  ∀ (s : State) (k : FrameNo),
    let t := s.compute k
    let held : Bool := ({ s.hold with line := s.holdNLow } : Hold).any
    let gate : Fin 48 → Pickup := fun i =>
      if k.toNat % 48 = 0 then (s.pickups.get i).tick else s.pickups.get i
    let peak : Fin 32 → Nat := fun f => max (s.taps.peaks.get f) (magnitude ((s.computeOuts k).get f))
    (∀ i, t.pickups.get i = (gate i).record (s.inputOf k i)) ∧
    (∀ i, t.delay.get i = (s.delay.get i).write (k.toNat % 32768) ((gate i).gated (s.inputOf k i))) ∧
    (k.toNat % 48 ≠ 0 →
      t.level = s.level ∧ t.guards = s.guards ∧ t.hold.state = s.hold.state ∧ t.hold.guard = s.hold.guard ∧
      (∀ f, t.taps.peaks.get f = peak f) ∧
      ∀ e ∈ [Event.holdEntered, .howlCut, .howlLimit], t.events.latched e = s.events.latched e) ∧
    t.events = { s.events with
      latch := t.events.latch
      concealed := t.events.concealed
      feedClips := t.events.feedClips
      coreClips := t.events.coreClips } ∧
    (∀ e, e ∉ [Event.lateReturn, .feedClip, .coreClip, .howlCut, .howlLimit, .cueFired, .cueLate, .cueDeferred,
      .holdEntered] → t.events.latched e = s.events.latched e) ∧
    (k.toNat % 48 = 0 →
      (∀ g, t.level.groups.get g = (s.level.groups.get g).tick) ∧
      (∀ f, let old := s.level.feeds.get f
        t.level.feeds.get f = { old with
          trim := if old.trimTarget < old.trim then max old.trimTarget (old.trim - 16)
            else min old.trimTarget (old.trim + 16) }) ∧
      t.level.hold = (if held then min 1024 (s.level.hold + 64) else s.level.hold - 16) ∧
      t.hold.state =
        (if held then (if t.level.hold < 1024 then .holding else .held)
         else if t.level.hold = 0 then .running else .resuming) ∧
      (t.events.latched .holdEntered = true ↔ s.events.latched .holdEntered = true ∨
        (t.hold.state = .holding ∨ t.hold.state = .held) ∧ (s.hold.state = .running ∨ s.hold.state = .resuming)) ∧
      (let moved : Fin 32 → Bool := fun f =>
          (s.level.feeds.get f).trim != (t.level.feeds.get f).trim || s.level.hold != t.level.hold
        let cut : Fin 32 → Prop := fun f => (s.guards.get f).IsCut (moved f) (peak f)
        let found : Fin 32 → Prop := fun f => cut f ∧ (s.guards.get f).limit ≤ (s.guards.get f).trim
        (∀ f, t.guards.get f = (s.guards.get f).tick (moved f) (peak f)) ∧
        (t.hold.guard = true ↔ s.hold.guard = true ∨ ∃ f, found f ∧ (s.guards.get f).escalate = true) ∧
        (t.events.latched .howlCut = true ↔ s.events.latched .howlCut = true ∨ ∃ f, cut f) ∧
        (t.events.latched .howlLimit = true ↔ s.events.latched .howlLimit = true ∨ (∃ f, found f) ∨
          s.liveHowlLimit = false ∧ t.liveHowlLimit = true)) ∧
      (∀ f, t.taps.peaks.get f = 0))

/-- R60, R62, R92, R100, R121, R122, R124 to R126: the Cue Unit, the effective gains and the scenes and cores that a
computation's samples begin with: a due cue fires and a crossfade ends as the rows alone do it, and else neither scenes
nor cores move; the weight rises by its step at a ramp tick, and the crossfade ends where it reaches 8192; a wander tick
count advances by 1 modulo its period; the gain sets are formed anew from the groups as the tick has moved them. A fire
is no tick for what it starts. The mark `firstTest` is log 24, and that it decides CUE_DEFERRED where R130 says CUE_LATE
is log 33. -/
def Obligations.TicksMoveCrossfadeWanderAndGains : Prop :=
  ∀ (s : State) (k : FrameNo), s.SceneLaw →
    let t := s.compute k
    let next : Fin 16 → Nat → Nat := fun i n =>
      if n + 1 ≥ (s.scenes.get i).header.wander then 0 else n + 1
    let b := s.beginComputation k
    let tested : CueUnit := { s.cue with firstTest := s.cue.firstTest && s.cue.state != .armed }
    (k.toNat % 48 ≠ 0 → s.fires k = false →
      t.cue = tested ∧ t.taps.gainActive = s.taps.gainActive ∧ t.taps.gainOutgoing = s.taps.gainOutgoing) ∧
    (s.fires k = true ↔ s.cue.state = .armed ∧
      (s.cue.immediate = true ∨ s.cue.frameX - k = 0 ∨ 2147483648 ≤ (s.cue.frameX - k).toNat)) ∧
    (s.computes = true → s.fires k = true → ∃ u, exec (.cueFire k) s = .next u ∧
      b.scenes = u.scenes ∧ b.cores = u.cores ∧
      t.cue = { u.cue with wanderOutgoing := t.cue.wanderOutgoing } ∧
      (u.cue.wanderOutgoing = none → t.cue.wanderOutgoing = none) ∧
      (k.toNat % 48 ≠ 0 → t.cue = u.cue ∧ t.taps.gainActive = u.taps.gainActive ∧
        t.taps.gainOutgoing = u.taps.gainOutgoing) ∧
      ∀ e ∈ [Event.cueFired, .cueLate, .cueDeferred], t.events.latched e = u.events.latched e) ∧
    (s.fires k = false → ∀ e ∈ [Event.cueFired, .cueLate, .cueDeferred],
      t.events.latched e = s.events.latched e) ∧
    (s.computes = true → k.toNat % 48 = 0 → s.cue.state.fades = true → 8192 ≤ s.cue.weight + s.cue.stepSize →
      ∃ u, exec .crossfadeEnd s = .next u ∧ b.scenes = u.scenes ∧ b.cores = u.cores ∧
        t.cue = { u.cue with wanderActive := t.cue.wanderActive }) ∧
    (s.fires k = false →
      k.toNat % 48 ≠ 0 ∨ s.cue.state.fades = false ∨ s.cue.weight + s.cue.stepSize < 8192 →
      b.scenes = s.scenes ∧ b.cores = s.cores) ∧
    (k.toNat % 48 = 0 → s.fires k = false → s.cue.state.fades = false ∨ s.cue.weight + s.cue.stepSize < 8192 →
      t.cue = { tested with
        weight := t.cue.weight
        wanderActive := t.cue.wanderActive
        wanderOutgoing := t.cue.wanderOutgoing } ∧
      (s.cue.state.fades = false → t.cue.weight = s.cue.weight) ∧
      (s.cue.wanderOutgoing = none → t.cue.wanderOutgoing = none)) ∧
    (s.fires k = false → s.cue.wanderActive = none → t.cue.wanderActive = none) ∧
    (s.fires k = true → t.cue.state = .fading ∧ t.cue.weight = 0 ∧ t.cue.wanderActive = some 0) ∧
    (k.toNat % 48 = 0 → s.cue.state.fades = true →
      t.cue.weight = min 8192 (s.cue.weight + s.cue.stepSize) ∧ t.cue.stepSize = s.cue.stepSize ∧
      t.cue.target = s.cue.target ∧
      (s.cue.weight + s.cue.stepSize < 8192 → t.cue.state = s.cue.state ∧
        ∀ i n, (s.scenes.get i).state = .outgoing → s.cue.wanderOutgoing = some n →
          t.cue.wanderOutgoing = some (next i n)) ∧
      (8192 ≤ s.cue.weight + s.cue.stepSize →
        t.cue.state = (if s.cue.state = .fadingArmed then .armed else .idle) ∧ t.cue.silence = false ∧
        t.cue.wanderOutgoing = none ∧ t.taps.gainOutgoing = none)) ∧
    (k.toNat % 48 = 0 → ∀ i n, (s.scenes.get i).state = .active → s.cue.wanderActive = some n →
      (s.fires k = false → t.cue.wanderActive = some (next i n)) ∧
      (s.fires k = true → t.cue.wanderOutgoing = some (next i n))) ∧
    (k.toNat % 48 = 0 →
      (∀ i, (t.scenes.get i).state = .active → t.taps.gainActive =
        some (gainSet t.level.groups (t.scenes.get i) (t.cue.wanderActive.getD 0))) ∧
      (∀ i, (t.scenes.get i).state = .outgoing → t.taps.gainOutgoing =
        some (gainSet t.level.groups (t.scenes.get i) (t.cue.wanderOutgoing.getD 0))))

/-! ## Ports and frames -/

/-- R1, R4, R5, R11, R14: line activity appearing and being lost, at every receive side but a LOCKED Port U (its loss
is `UpstreamLossIsolates`). A port where it appears has found no sync pattern yet (log 32). Rows that cannot occur at
a port change nothing (log 6). -/
def Obligations.LineActivityMovesPorts : Prop :=
  ∀ s : State, s.pins.rstLow = false →
    (s.chain.leader = true → exec (.lineActivityAppears .U) s = .next s ∧
      exec (.lineActivityLost .U) s = .next s) ∧
    (s.chain.leader = false → s.chain.portU.state = .down →
      exec (.lineActivityAppears .U) s =
        .next { s with chain := { s.chain with portU := ⟨.seeking, 0, 0⟩, syncU := false } } ∧
      exec (.lineActivityLost .U) s = .next s) ∧
    (s.chain.leader = false → s.chain.portU.state = .seeking →
      exec (.lineActivityLost .U) s =
        .next { s with chain := { s.chain with portU := ⟨.down, 0, 0⟩ } }) ∧
    (s.chain.portU.state ≠ .down → exec (.lineActivityAppears .U) s = .next s) ∧
    (s.chain.portD.state = .down →
      exec (.lineActivityAppears .D) s =
        .next { s with chain := { s.chain with portD := ⟨.seeking, 0, 0⟩, syncD := false } } ∧
      exec (.lineActivityLost .D) s = .next s) ∧
    (s.chain.portD.state ≠ .down → exec (.lineActivityAppears .D) s = .next s) ∧
    (s.ChainLaw → s.chain.portD.state = .seeking →
      exec (.lineActivityLost .D) s =
        .next { s with chain := { s.chain with portD := ⟨.down, 0, 0⟩ } }) ∧
    (s.ChainLaw → s.chain.portD.state = .locked → ∃ t, exec (.lineActivityLost .D) s = .next t ∧
      t = { s with
        chain := { s.chain with
          portD := ⟨.down, 0, 0⟩
          turnaround := if s.chain.handles then .chainEnd else .detached
          discard := false
          switchOpen := t.chain.switchOpen }
        events := { s.events with latch := t.events.latch } } ∧
      t.events.latch = s.events.latch ||| Event.word .chainD |||
        (if s.chain.handles then Event.word .topology else 0))

/-- R5, R15, R143, R147, R150, R159: a member's Port U leaves LOCKED, by loss of activity or by the bad frame that
brings its bad run to B. HOLD_ENTERED is latched where ISOLATED is entered from RUNNING or RESUMING. That frame paces no
computation, uses no number and passes to Port D unchanged. A reply in transmission is set back to its first segment
(log 12). -/
def Obligations.UpstreamLossIsolates : Prop :=
  ∀ s : State, s.pins.rstLow = false → s.chain.leader = false → s.chain.portU.state = .locked →
    (∃ t, exec (.lineActivityLost .U) s = .next t ∧ s.LostUpstream t ∧ t.pins = s.pins ∧
      t.chain.portU = ⟨.down, 0, 0⟩ ∧ t.chain.syncU = s.chain.syncU ∧ t.chain.txD = s.chain.txD ∧
      t.events.badU = s.events.badU ∧ t.events.latched .badFrame = s.events.latched .badFrame) ∧
    (s.chain.lockB ≤ min 64 (s.chain.portU.bad + 1) →
      (∀ (o : List Byte) (b : Bool), goodFrame? false o = none →
        ∃ t, exec (.outboundFrameReceive o b) s = .next t ∧ s.LostUpstream t ∧ t.pins = ⟨false, b⟩ ∧
          t.chain.portU = ⟨.seeking, 0, 0⟩ ∧ t.chain.syncU = true ∧ t.chain.txD = some o ∧
          t.events.badU = min top32 (s.events.badU + 1) ∧ t.events.latched .badFrame = true) ∧
      (∀ b : Bool, s.chain.syncU = true →
        ∃ t, exec (.syncMissingPeriod .U b) s = .next t ∧ s.LostUpstream t ∧
          t.pins = ⟨false, b⟩ ∧ t.chain.portU = ⟨.seeking, 0, 0⟩ ∧ t.chain.syncU = true ∧
          t.chain.txD = none ∧ t.events.badU = min top32 (s.events.badU + 1) ∧
          t.events.latched .badFrame = true))

/-- R2, R9, R10, R12, R13, R18, R163, R166: the leader originates the frame of its counter, with its own octet, as its
flags stand after the computation, the feeds' values, the pattern word and, in its own turn, its reply's next segment
written; the frame paces a computation, settles and counts the discard mark (`Chain.HandledTo`), in END it is the part's
own return pass, the events are those of the pacing and of that pass (`State.HandledEvents`), and the counter rises by
1. A member originates nothing (log 6); the level of HOLD_N is an operand (log 5). That a reply READY since a node reset
is sent in the first own turn after it is log 34. -/
def Obligations.LeaderOriginatesFrames : Prop :=
  (∀ (s : State) (b : Bool), s.pins.rstLow = false → s.chain.leader = false →
    exec (.frameOriginate b) s = .next (s.setHoldPulled b)) ∧
  (∀ (s : State) (b : Bool), s.pins.rstLow = false → s.chain.leader = true →
    ∃ (t : State) (g : Frame), exec (.frameOriginate b) s = .next t ∧
      t.chain.counter = s.chain.counter + 1 ∧ t.chain.txD = some g.octets ∧
      (s.chain.txU = none → t.chain.txU = none) ∧ t.pins = ⟨false, b⟩ ∧
      t.chain.txU = (if s.chain.turnaround = .chainEnd then none else s.chain.txU) ∧
      t.chain.portU = s.chain.portU ∧ t.chain.syncU = s.chain.syncU ∧ t.chain.expected = s.chain.expected ∧
      s.chain.HandledTo s.chain.counter t.chain ∧
      t.chain.portD = s.chain.portD ∧ t.chain.turnaround = s.chain.turnaround ∧
      (s.setHoldPulled b).PacedTo s.chain.counter t ∧ (s.setHoldPulled b).ReadsOwn g t ∧
      (s.setHoldPulled b).HandledEvents ((s.setHoldPulled b).pacedEvents s.chain.counter) g t ∧
      g.number = s.chain.counter ∧ g.ret = false ∧ g.turned = false ∧ g.turner = 0 ∧
      (∀ a, a ≠ s.chain.address → g.roll.get a = 0) ∧
      (g.roll.get s.chain.address).getLsbD 7 = true ∧ (g.roll.get s.chain.address).getLsbD 6 = true ∧
      g.roll.get s.chain.address = ((s.setHoldPulled b).paceFrame s.chain.counter).rollCall ∧
      (∀ x, (∀ f, (s.level.feeds.get f).slot ≠ some x) → (s.pattern.genOn && s.pattern.genSlot == x) = false →
        g.slots.get x = 0) ∧
      (s.SlotLaw → ∀ f x, (s.level.feeds.get f).slot = some x →
        g.slots.get x = ((s.setHoldPulled b).paceOuts s.chain.counter).get f) ∧
      (s.pattern.genOn = true → g.slots.get s.pattern.genSlot = streamWord s.pattern.history) ∧
      let ready := ((s.setHoldPulled b).paceFrame s.chain.counter).lane.ready
      (turnOf s.chain.counter ≠ s.chain.address →
        g.segment = Segment.empty ∧ t.lane.ready = ready ∧ t.lane.sent = s.lane.sent) ∧
      (turnOf s.chain.counter = s.chain.address →
        State.OwnTurnSends ready s.lane.sent Segment.empty g.segment t))

/-- R5, R8 to R10, R12, R13, R18, R163, R165, R166: a good outbound frame at a member's LOCKED Port U. Its number is
accepted or, when it is not the expected one, adopted with FRAME_JUMP; it paces a computation, settles and counts the
discard mark; the part writes its own octet, as its flags stand after the computation, its slots and, in its own turn,
its reply's next segment, leaves the rest of the frame as received, and in END reads the frame it has turned around
(`State.HandlesAs`). Where another node has written in its place it writes no segment, abandons its reply and latches
ADDRESS_CLASH (log 14). A jump past an own turn leaves a reply in transmission where it stands (log 31). A reply READY
since a node reset is sent in the first own turn after it (log 34). -/
def Obligations.LockedGoodFrameIsHandled : Prop :=
  ∀ (s : State) (o : List Byte) (f : Frame) (b : Bool), s.pins.rstLow = false → s.chain.leader = false →
    s.chain.portU.state = .locked → goodFrame? false o = some f →
    let jumped : State := { s.setHoldPulled b with events := { s.events with
      latch := if f.number = s.chain.expected then s.events.latch
        else s.events.latch ||| Event.word .frameJump } }
    ∃ (t : State) (g : Frame), exec (.outboundFrameReceive o b) s = .next t ∧
      t.chain.expected = f.number + 1 ∧ t.chain.portU = ⟨.locked, min 255 (s.chain.portU.good + 1), 0⟩ ∧
      t.chain.syncU = true ∧ t.chain.counter = s.chain.counter ∧
      t.chain.portD = s.chain.portD ∧ t.chain.turnaround = s.chain.turnaround ∧ t.pins = ⟨false, b⟩ ∧
      t.hold.condition = s.hold.condition ∧
      (f.number ≠ s.chain.expected → t.events.latched .frameJump = true) ∧
      jumped.HandlesAs f g t

/-- R5, R8 to R13, R17, R18, R163, R165, R166: the good frame that brings a member's Port U to LOCKED is handled: its
number is adopted, ISOLATED becomes RUNNING, and in the state that this leaves the frame is paced, written, turned
around in END and read as any other (`State.HandlesAs`). That a reply READY since a node reset is sent in the first own
turn after it is log 34. -/
def Obligations.LockingFrameEndsIsolation : Prop :=
  ∀ (s : State) (o : List Byte) (f : Frame) (b : Bool), s.pins.rstLow = false → s.chain.leader = false →
    s.chain.portU.state = .seeking → s.chain.lockG ≤ min 255 (s.chain.portU.good + 1) →
    goodFrame? false o = some f →
    let condition := if s.hold.condition = .isolated then .running else s.hold.condition
    let turnaround := if s.chain.portD.state = .locked then .through else .chainEnd
    let locked : State := { s.setHoldPulled b with
      chain := { s.chain with turnaround := turnaround }
      hold := { s.hold with condition := condition } }
    ∃ (t : State) (g : Frame), exec (.outboundFrameReceive o b) s = .next t ∧
      t.chain.portU = ⟨.locked, min 255 (s.chain.portU.good + 1), 0⟩ ∧ t.chain.syncU = true ∧
      t.chain.expected = f.number + 1 ∧ t.chain.portD = s.chain.portD ∧ t.pins = ⟨false, b⟩ ∧
      t.chain.counter = s.chain.counter ∧
      t.chain.turnaround = turnaround ∧ t.hold.condition = condition ∧ t.hold.link = s.hold.link ∧
      locked.HandlesAs f g t

/-- R1, R4, R5, R7, R8, R16: what passes Port U of a member that is not LOCKED, and the periods that are no frame
of this port: those of a leader's Port U and of a DOWN receive side, and a missing sync pattern before the first one
found, change nothing but the level of HOLD_N that the row carries (log 5, log 6, log 32). -/
def Obligations.UnlockedPortUPassesFrames : Prop :=
  ∀ (s : State) (o : List Byte) (b : Bool), s.pins.rstLow = false →
    (s.chain.leader = true ∨ s.chain.portU.state = .down →
      exec (.outboundFrameReceive o b) s = .next (s.setHoldPulled b) ∧
      exec (.syncMissingPeriod .U b) s = .next (s.setHoldPulled b)) ∧
    (s.chain.leader = false → s.chain.portU.state = .seeking →
      (∀ f, goodFrame? false o = some f → min 255 (s.chain.portU.good + 1) < s.chain.lockG →
        exec (.outboundFrameReceive o b) s = .next { s with
          pins := ⟨false, b⟩
          chain := { s.chain with
            portU := ⟨.seeking, min 255 (s.chain.portU.good + 1), 0⟩
            syncU := true
            expected := f.number + 1
            txD := some o } }) ∧
      (goodFrame? false o = none →
        exec (.outboundFrameReceive o b) s = .next { s with
          pins := ⟨false, b⟩
          chain := { s.chain with
            portU := ⟨.seeking, 0, min 64 (s.chain.portU.bad + 1)⟩
            syncU := true
            txD := some o }
          events := { s.events with
            latch := s.events.latch ||| Event.word .badFrame
            badU := min top32 (s.events.badU + 1) } }) ∧
      (s.chain.syncU = false → exec (.syncMissingPeriod .U b) s = .next (s.setHoldPulled b)) ∧
      (s.chain.syncU = true → exec (.syncMissingPeriod .U b) s = .next { s with
        pins := ⟨false, b⟩
        chain := { s.chain with portU := ⟨.seeking, 0, min 64 (s.chain.portU.bad + 1)⟩, txD := none }
        events := { s.events with
          latch := s.events.latch ||| Event.word .badFrame
          badU := min top32 (s.events.badU + 1) } }))

/-- R7, R8, R12, R13, R18, R156, R164, R190: a bad frame period at a member's Port U that stays LOCKED is handled as the
expected number and forwarded unchanged: it is counted, paces that number's computation, settles and counts the discard
mark, takes the loss of the frame eight before it, gives no pickups, and its pattern word is formed and lost. The rest
of the lane stands, and the events are the count's, the loss's and the computation's. -/
def Obligations.LockedBadFrameIsHandled : Prop :=
  ∀ (s : State) (c : Instr) (octets : Option (List Byte)) (b : Bool), s.pins.rstLow = false →
    s.chain.leader = false → s.chain.portU.state = .locked →
    min 64 (s.chain.portU.bad + 1) < s.chain.lockB →
    (c = .syncMissingPeriod .U b ∧ octets = none ∧ s.chain.syncU = true ∨
      ∃ o, c = .outboundFrameReceive o b ∧ octets = some o ∧ goodFrame? false o = none) →
    ∃ t, exec c s = .next t ∧ t.chain.expected = s.chain.expected + 1 ∧ t.chain.counter = s.chain.counter ∧
      t.chain.syncU = true ∧ s.chain.HandledTo s.chain.expected t.chain ∧
      t.chain.portU = ⟨.locked, 0, min 64 (s.chain.portU.bad + 1)⟩ ∧ t.chain.portD = s.chain.portD ∧
      t.chain.turnaround = s.chain.turnaround ∧ t.chain.txD = octets ∧
      t.chain.txU = (if s.chain.turnaround = .chainEnd then octets else s.chain.txU) ∧
      t.events.badU = min top32 (s.events.badU + 1) ∧ t.events.latched .badFrame = true ∧
      (s.setHoldPulled b).PacedTo s.chain.expected t ∧
      t.buffer = s.buffer ∧ t.pattern = s.pattern.generate ∧ t.pins = ⟨false, b⟩ ∧
      t.events = State.pacedEvents { s.setHoldPulled b with events := { s.events with
        latch := s.events.latch ||| Event.word .badFrame
        badU := min top32 (s.events.badU + 1) } } s.chain.expected ∧
      t.lane = { (s.takeLoss (s.chain.expected - 8)).lane with ready := t.lane.ready, sent := t.lane.sent } ∧
      t.lane.queue = s.lane.queue ∧
      t.lane.record = (s.takeLoss (s.chain.expected - 8)).lane.record ∧
      t.lane.contexts = (s.takeLoss (s.chain.expected - 8)).lane.contexts ∧
      t.lane.ready = ((s.setHoldPulled b).paceFrame s.chain.expected).lane.ready ∧
      t.lane.sent = (if turnOf s.chain.expected = s.chain.address then 0 else s.lane.sent)

/-- R5, R10 to R13, R16, R41, R156: a good return frame at Port D. The port is judged first, and where END becomes
THROUGH the switch number and the discard mark are set, with TOPOLOGY (the number as it then stands: log 10). Then the
frame is passed in DETACHED, dropped in END, dropped before the switch number, or read and forwarded, with the events of
its segment and of the checker's word. At a DOWN port the row does not occur (log 6). -/
def Obligations.GoodReturnFrameIsReadOrDropped : Prop :=
  ∀ (s : State) (o : List Byte) (f : Frame), s.pins.rstLow = false → goodFrame? true o = some f →
    (s.chain.portD.state = .down → exec (.returnFrameReceive o) s = .next s) ∧
    (s.chain.portD.state ≠ .down → s.ChainLaw →
      let locks : Prop := s.chain.portD.state = .locked ∨ s.chain.lockG ≤ min 255 (s.chain.portD.good + 1)
      let port : PortRx := ⟨if locks then .locked else .seeking, min 255 (s.chain.portD.good + 1), 0⟩
      let p : State := if s.chain.turnaround = .chainEnd ∧ locks
        then { s with
          chain := { s.chain with
            portD := port
            syncD := true
            turnaround := .through
            discard := true
            switchNo := if s.chain.leader then s.chain.counter else s.chain.expected
            switchOpen := true
            sinceSwitch := 0 }
          events := { s.events with latch := s.events.latch ||| Event.word .topology } }
        else { s with chain := { s.chain with portD := port, syncD := true } }
      (p.chain.turnaround = .detached → exec (.returnFrameReceive o) s = .next (p.sendU (some o))) ∧
      (p.chain.turnaround = .chainEnd → exec (.returnFrameReceive o) s = .next p) ∧
      (p.chain.turnaround = .through → p.chain.discard = true →
        2147483648 ≤ (f.number - p.chain.switchNo).toNat →
        exec (.returnFrameReceive o) s = .next (p.sendU none)) ∧
      (p.chain.turnaround = .through →
        (p.chain.discard = false ∨ (f.number - p.chain.switchNo).toNat < 2147483648) →
        ∃ t, exec (.returnFrameReceive o) s = .next t ∧
          t.chain = { p.chain with discard := false, txU := if s.chain.leader then none else some o } ∧
          t.level = s.level ∧ t.delay = s.delay ∧ t.cores = s.cores ∧ t.pickups = s.pickups ∧
          t.scenes = s.scenes ∧ t.check = s.check ∧ t.cue = s.cue ∧ t.hold = s.hold ∧ t.guards = s.guards ∧
          t.taps = s.taps ∧ t.pins = s.pins ∧
          t.pattern = s.pattern.take f.number (f.slots.get s.pattern.chkSlot) ∧ t.events = p.readEvents f ∧
          (∀ i, i ≠ turnOf f.number → t.buffer.get i = s.buffer.get i) ∧
          (s.hold.condition = .running →
            (t.buffer.get (turnOf f.number)).valid = true ∧
            (t.buffer.get (turnOf f.number)).tag = f.number ∧
            ∀ i, (t.buffer.get (turnOf f.number)).samples.get i =
              match (s.pickups.get i).slot with
              | some x => f.slots.get x
              | none => 0) ∧
          (s.hold.condition ≠ .running → t.buffer = s.buffer) ∧
          (s.lane.record.get (turnOf f.number) = some ⟨f.number, false⟩ → t.lane = s.lane) ∧
          (s.lane.record.get (turnOf f.number) ≠ some ⟨f.number, false⟩ →
            t.lane.record.get (turnOf f.number) = some ⟨f.number, true⟩ ∧
            t.lane = ((s.setRecord f.number true).takeSegment f.number f.segment).lane)))

/-- R4, R5, R7, R12, R16: a bad frame period at Port D is counted and judged, and forwarded unchanged in THROUGH and
DETACHED by a member; nothing is read. At a DOWN port, and for a sync pattern missed before the first one found, the
row does not occur: it changes nothing but the level of HOLD_N it carries (log 5, log 6, log 32). -/
def Obligations.BadReturnFrameIsForwarded : Prop :=
  ∀ (s : State) (c : Instr) (octets : Option (List Byte)) (b : Bool), s.pins.rstLow = false →
    (c = .syncMissingPeriod .D b ∧ octets = none ∨
      c = .returnFrameReceive (octets.getD []) ∧ octets.isSome ∧ b = s.pins.holdPulled ∧
        goodFrame? true (octets.getD []) = none) →
    (s.chain.portD.state = .down ∨ octets = none ∧ s.chain.syncD = false →
      exec c s = .next (s.setHoldPulled b)) ∧
    (s.chain.portD.state ≠ .down → (octets = none → s.chain.syncD = true) →
      ∃ t, exec c s = .next t ∧ t.events.badD = min top32 (s.events.badD + 1) ∧
        t.events.latched .badFrame = true ∧
        t.chain.portD = (if s.chain.portD.state = .locked ∧ min 64 (s.chain.portD.bad + 1) < s.chain.lockB
          then ⟨.locked, 0, min 64 (s.chain.portD.bad + 1)⟩
          else if s.chain.portD.state = .locked then ⟨.seeking, 0, 0⟩
          else ⟨.seeking, 0, min 64 (s.chain.portD.bad + 1)⟩) ∧
        t.chain.txU = (if t.chain.turnaround = .chainEnd then s.chain.txU
          else if s.chain.leader then none else octets) ∧
        t = { s with
          pins := ⟨false, b⟩
          chain := { s.chain with
            portD := t.chain.portD
            syncD := true
            turnaround := t.chain.turnaround
            discard := t.chain.discard
            switchNo := t.chain.switchNo
            switchOpen := t.chain.switchOpen
            sinceSwitch := t.chain.sinceSwitch
            txU := t.chain.txU }
          events := { s.events with latch := t.events.latch, badD := t.events.badD } } ∧
        (s.ChainLaw → t.chain =
          (if s.chain.turnaround = .through ∧ t.chain.portD.state ≠ .locked
           then { s.chain with
             portD := t.chain.portD, syncD := true, turnaround := .chainEnd, discard := false
             switchOpen := false }
           else { s.chain with portD := t.chain.portD, syncD := true, txU := t.chain.txU }) ∧
          t.events.latch = s.events.latch ||| Event.word .badFrame |||
            (if s.chain.portD.state = .locked ∧ t.chain.portD.state ≠ .locked then Event.word .chainD else 0) |||
            (if s.chain.turnaround = .through ∧ t.chain.portD.state ≠ .locked then Event.word .topology else 0)))

/-! ## Events inside the blocks (log 4) -/

/-- R13, R49, R50, R80, R139, R140: the events that end a count, each taken alone (log 4): the discard mark after the
sixteenth frame, the eighth clearing computation of a core, the hang of a gate, which starts its release, the quiet
hold of a CUT feed and the recovery count of a RECOVER feed. Everything else stays. -/
def Obligations.CountsRunOut : Prop :=
  (∀ s : State, s.pins.rstLow = false →
     (s.chain.discard = true → 15 ≤ s.chain.sinceSwitch → exec .discardMarkExpire s =
       .next { s with chain := { s.chain with discard := false, sinceSwitch := 16 } }) ∧
     (s.chain.discard = false ∨ s.chain.sinceSwitch < 15 → exec .discardMarkExpire s = .next s)) ∧
  (∀ (s : State) (c : Fin 4), s.computes = true → (s.cores.get c).state = .shaping →
     (s.cores.get c).clearCount = 7 →
     ∃ t, exec (.coreShaped c) s = .next t ∧ t = { s with cores := t.cores } ∧
       (∀ d, d ≠ c → t.cores.get d = s.cores.get d) ∧
       t.cores.get c = { s.cores.get c with
         state := .shaped, clearCount := 8, mem := (t.cores.get c).mem } ∧
       (∀ p, (t.cores.get c).mem.read p =
         if 14336 ≤ p ∧ p < 16384 then 0 else (s.cores.get c).mem.read p)) ∧
  (∀ (s : State) (i : Fin 48), s.computes = true → (s.pickups.get i).enable = true →
     (s.pickups.get i).gate = .hanging → (s.pickups.get i).hangCount ≤ 1 →
     (s.pickups.get i).peak < gain (s.pickups.get i).closeCode →
     ∃ t, exec (.gateHangExpire i) s = .next t ∧ t = { s with pickups := t.pickups } ∧
       (∀ j, j ≠ i → t.pickups.get j = s.pickups.get j) ∧
       t.pickups.get i = { s.pickups.get i with
         gate := .closed
         hangCount := 0
         level := ramp (s.pickups.get i).level (s.pickups.get i).floorCode (s.pickups.get i).release }) ∧
  (∀ (s : State) (f : Fin 32), s.computes = true → (s.guards.get f).enable = true →
     let g := s.guards.get f
     (g.state = .cut → g.timer ≤ 1 →
       ∃ t, exec (.quietHoldExpire f) s = .next t ∧ t = { s with guards := t.guards } ∧
         (∀ h, h ≠ f → t.guards.get h = s.guards.get h) ∧
         t.guards.get f = { g with
           timer := 0
           state := if g.trim = 0 then .watch else .recover
           count := if g.trim = 0 then 0 else g.interval }) ∧
     (g.state = .recover → g.count ≤ 1 →
       ∃ t, exec (.recoveryStep f) s = .next t ∧ t = { s with guards := t.guards } ∧
         (∀ h, h ≠ f → t.guards.get h = s.guards.get h) ∧
         t.guards.get f = { g with
           trim := g.trim - 1
           state := if g.trim ≤ 1 then .watch else .recover
           count := if g.trim ≤ 1 then 0 else g.interval }))

/-- R108, R110: a running check in a computation and its end. Every computation examines the next 64 taps in the scene
and the cores that its beginning leaves, and moves the next index past them when all pass and more follow. All remaining
taps pass and the list ends within 64 taps: READY, PASSED, CHECK_PASSED. Tap `next + j` is the first to fail: EDITING,
FAILED, CHECK_FAILED. A broadcast check sends nothing. The end as a row of its own is log 4. That a core whose eighth
clearing step (R80) falls in the same computation does not count as SHAPED for that check step is the model's choice
(log 19). -/
def Obligations.CheckAdvancesAndEndsWithItsReply : Prop :=
  (∀ (s : State) (r : CheckRun), s.computes = true → s.check = some r →
    ((∀ t ∈ (s.scenes.get r.scene).taps.drop r.next, checkTap s.cores t = none) →
      (s.scenes.get r.scene).taps.length ≤ r.next + 64 →
      ∃ t, exec .checkPass s = .next t ∧ t.check = none ∧
        (t.scenes.get r.scene) = { s.scenes.get r.scene with state := .ready, result := .passed } ∧
        (∀ i, i ≠ r.scene → t.scenes.get i = s.scenes.get i) ∧
        t.lane = { s.lane with ready := s.lane.ready ++ (r.replyTo.toList.map fun k =>
          k.reply .checkPassed (octet r.scene.val :: octets2 (s.scenes.get r.scene).taps.length)) } ∧
        t = { s with check := none, scenes := t.scenes, lane := t.lane }) ∧
    (∀ (j : Nat) (tap : Tap) (why : CheckReason), j < 64 →
      (s.scenes.get r.scene).taps[r.next + j]? = some tap → checkTap s.cores tap = some why →
      (∀ i < j, ∀ u, (s.scenes.get r.scene).taps[r.next + i]? = some u → checkTap s.cores u = none) →
      ∃ t, exec .checkFail s = .next t ∧ t.check = none ∧
        (t.scenes.get r.scene) =
          { s.scenes.get r.scene with state := .editing, result := .failed (r.next + j) why } ∧
        (∀ i, i ≠ r.scene → t.scenes.get i = s.scenes.get i) ∧
        t.lane = { s.lane with ready := s.lane.ready ++ (r.replyTo.toList.map fun k =>
          k.reply .checkFailed
            (octet r.scene.val :: octets2 (r.next + j) ++ [octet (reasonCode why)])) } ∧
        t = { s with check := none, scenes := t.scenes, lane := t.lane })) ∧
  (∀ s : State, s.check = none → s.advanceCheck = s) ∧
  (∀ (s : State) (r : CheckRun), s.check = some r →
    let taps := (s.scenes.get r.scene).taps
    let passes : Prop := ∀ t ∈ (taps.drop r.next).take 64, checkTap s.cores t = none
    (passes → r.next + 64 < taps.length →
      s.advanceCheck = { s with check := some { r with next := r.next + 64 } }) ∧
    (s.computes = true → passes → taps.length ≤ r.next + 64 → exec .checkPass s = .next s.advanceCheck) ∧
    (s.computes = true → ¬passes → exec .checkFail s = .next s.advanceCheck)) ∧
  (∀ (s : State) (k : FrameNo),
    let b := s.beginComputation k
    b.check = s.check ∧ b.lane = s.lane ∧ (∀ c, (b.cores.get c).state = (s.cores.get c).state) ∧
    (∀ i, (b.scenes.get i).taps = (s.scenes.get i).taps) ∧
    (s.compute k).check = b.advanceCheck.check ∧ (s.compute k).scenes = b.advanceCheck.scenes ∧
    (s.compute k).lane = b.advanceCheck.lane)

/-- R60, R92, R100, R121, R122: a due cue fires, as the row alone (log 4: no other part of a computation runs with it,
and a cue not due leaves everything). The mark `firstTest`, which tells CUE_DEFERRED from CUE_LATE, is log 24; that it
does so where R130 says CUE_LATE is log 33. -/
def Obligations.DueCueFires : Prop :=
  ∀ (s : State) (i : Fin 16) (k : FrameNo), s.computes = true → s.SceneLaw → s.cue.state = .armed →
    s.cue.target = some i →
    ((s.cue.immediate = true ∨ s.cue.frameX - k = 0 ∨ 2147483648 ≤ (s.cue.frameX - k).toNat) →
      let silence := (List.finRange 16).all fun j => (s.scenes.get j).state != .active
      ∃ t, exec (.cueFire k) s = .next t ∧
        (∀ j, t.scenes.get j = { s.scenes.get j with
          state := if j = i then .active
            else if (s.scenes.get j).state = .active then .outgoing else (s.scenes.get j).state }) ∧
        t.cue = { s.cue with
          state := .fading
          target := none
          weight := 0
          stepSize := 8192 / 2 ^ (s.scenes.get i).header.fadeCode
          silence := silence
          deferred := false
          firstTest := false
          wanderActive := some 0
          wanderOutgoing := if silence then none else s.cue.wanderActive } ∧
        (∀ c, t.cores.get c = { s.cores.get c with
          outgoing := (s.cores.get c).active
          active := (s.cores.get c).armed.getD Targets.zero
          armed := none }) ∧
        t.taps = { s.taps with
          gainActive := some (gainSet s.level.groups (s.scenes.get i) 0)
          gainOutgoing := if silence then none else s.taps.gainActive } ∧
        t.events.latch = s.events.latch ||| Event.word .cueFired |||
          (if s.cue.frameX = k ∨ s.cue.immediate = true then 0
           else if s.cue.deferred && s.cue.firstTest then Event.word .cueDeferred
           else Event.word .cueLate) ∧
        t = { s with
          scenes := t.scenes, cue := t.cue, cores := t.cores, taps := t.taps
          events := { s.events with latch := t.events.latch } }) ∧
    (s.cue.immediate = false → s.cue.frameX ≠ k → (s.cue.frameX - k).toNat < 2147483648 →
      exec (.cueFire k) s = .next s)

/-- R92, R100, R125: the end of a crossfade, as the row alone: no tick is asked for (log 4). Discarded core targets
stand at 0 (log 16), and a cue that is then ARMED stands before its first due test (log 24). -/
def Obligations.CrossfadeEndReleasesScene : Prop :=
  ∀ s : State, s.computes = true → s.cue.state.fades = true → 8192 ≤ s.cue.weight + s.cue.stepSize →
    ∃ t, exec .crossfadeEnd s = .next t ∧
      t.cue = { s.cue with
        state := if s.cue.state = .fadingArmed then .armed else .idle
        weight := 8192
        silence := false
        firstTest := s.cue.state == .fadingArmed
        wanderOutgoing := none } ∧
      (∀ i, (s.scenes.get i).state = .outgoing → (t.scenes.get i) =
        { s.scenes.get i with state := if s.cue.target = some i then .cued else .ready }) ∧
      (∀ i, (s.scenes.get i).state ≠ .outgoing → t.scenes.get i = s.scenes.get i) ∧
      (∀ c, t.cores.get c = { s.cores.get c with outgoing := Targets.zero }) ∧
      t.taps = { s.taps with gainOutgoing := none } ∧
      t = { s with scenes := t.scenes, cue := t.cue, cores := t.cores, taps := t.taps }

/-! ## The lane: queue, judgement, refusals -/

/-- R161, R162: a command offered to the queue is added at the tail, or dropped when 8 entries wait; BACKPRESSURE is set
at 6 entries, kept at 4 and 5, and cleared when a taking leaves 3. A lane command row whose message arrives offers it
to the command queue, and takes it at once when no other command waits before it (log 3). The oldest entry waits when
it is unicast, neither NODE_RESET nor WAKE, and no reply entry is FREE; a row does not take an entry of another
kind. -/
def Obligations.CommandsAreQueuedTakenOrWait : Prop :=
  ((∀ (s : State) (src : Fin 16) (kind tag : Byte) (params : List Byte) (b : Bool),
      let t := s.offer src kind tag params b
      (s.lane.queue.length < 8 →
        t = { s with lane := { s.lane with
          queue := s.lane.queue ++ [⟨src, kind, tag, params, b, s.lane.lossPending⟩]
          lossPending := false
          backpressure := if 6 ≤ s.lane.queue.length + 1 then true else s.lane.backpressure } }) ∧
      (8 ≤ s.lane.queue.length →
        t = { s with
          lane := { s.lane with lossPending := true }
          events := { s.events with
            latch := s.events.latch ||| Event.word .queueOverrun
            dropped := min 65535 (s.events.dropped + 1) } })) ∧
    (∀ (s : State) (rest : List Entry),
      s.popQueue rest = { s with lane := { s.lane with
        queue := rest
        backpressure := if rest.length ≤ 3 then false else s.lane.backpressure } })) ∧
  ((∀ (row : Byte × (Taking → Instr)) (m : LaneMessage) (s : State),
      row ∈ laneRows ∨ (kindBad row.1 = true ∧ row.2 = .badKindCommand row.1) → s.pins.rstLow = false →
      let offered := s.offer m.source row.1 m.tag m.params m.broadcast
      (s.lane.queue = [] → exec (row.2 (.arriving m)) s = exec (row.2 .queued) offered) ∧
      (s.lane.queue ≠ [] → exec (row.2 (.arriving m)) s = .next offered)) ∧
    (∀ (row : Byte × (Taking → Instr)) (s : State) (e : Entry) (rest : List Entry),
      row ∈ laneRows ∨ (kindBad row.1 = true ∧ row.2 = .badKindCommand row.1) → s.lane.queue = e :: rest →
      (e.kind = row.1 → row.1 ≠ 2 → row.1 ≠ 4 → e.broadcast = false → s.freeReplies = 0 →
        exec (row.2 .queued) s = .next s) ∧
      (e.kind ≠ row.1 → exec (row.2 .queued) s = .next s)))

/-- R175, R176: in QUIET every command but IDENTIFY, NODE_RESET, WAKE, EVENTS_READ, EVENTS_CLEAR and CHAIN_READ is
refused with QUIET, whatever its parameters, and changes nothing else. Outside QUIET a wrong parameter length gives
BAD_LENGTH and changes nothing else; TAP_WRITE's length follows its record count. The four kinds of a fixed length that
QUIET admits, IDENTIFY, EVENTS_READ, EVENTS_CLEAR and CHAIN_READ, give BAD_LENGTH in QUIET too. -/
def Obligations.QuietAndWrongLengthAreRefused : Prop :=
  (∀ (row : Byte × (Taking → Instr)) (s : State) (e : Entry) (rest : List Entry), row ∈ quietRefusedRows →
      s.Takes e rest row.1 e.params.length → s.hold.condition = .quiet →
      exec (row.2 .queued) s = .next ((s.popQueue rest).refusal e .quiet)) ∧
  ((∀ (kind : Byte) (n : Nat) (row : Taking → Instr) (s : State) (e : Entry) (rest : List Entry),
      (kind, n, row) ∈ fixedRows → s.Takes e rest kind e.params.length → s.hold.condition ≠ .quiet →
      e.params.length ≠ n → exec (row .queued) s = .next ((s.popQueue rest).refusal e .badLength)) ∧
    (∀ (s : State) (e : Entry) (rest : List Entry), s.Takes e rest 33 e.params.length →
      s.hold.condition ≠ .quiet →
      (e.params.length < 4 ∨ 54 < at8 e.params 3 ∨ e.params.length ≠ 4 + 8 * at8 e.params 3) →
      exec (.tapWrite .queued) s = .next ((s.popQueue rest).refusal e .badLength)) ∧
    (∀ (kind : Byte) (n : Nat) (row : Taking → Instr) (s : State) (e : Entry) (rest : List Entry),
      (kind, n, row) ∈ fixedRows → kind ∈ [(1 : Byte), 8, 9, 12] → s.Takes e rest kind e.params.length →
      e.params.length ≠ n → exec (row .queued) s = .next ((s.popQueue rest).refusal e .badLength)))

/-- R162, R173, R175, R177: a broadcast query is discarded with COMMAND_REFUSED in every condition; a command of an
unknown kind below 128 is refused with BAD_KIND; a refusal is the status octet alone, which carries LOST_BEFORE in
bit 7 and the code of the status in bits 6..0. -/
def Obligations.BroadcastQueriesAndBadKindsAreRefused : Prop :=
  (∀ (kind : Byte) (n : Nat) (row : Taking → Instr) (s : State) (e : Entry) (rest : List Entry),
    (kind, n, row) ∈ queryRows → s.Takes e rest kind e.params.length → e.broadcast = true →
    exec (row .queued) s = .next ((s.popQueue rest).latch .commandRefused)) ∧
  (∀ (kind : Byte) (s : State) (e : Entry) (rest : List Entry), kind.toNat < 128 → kind ∉ laneRows.map Prod.fst →
    s.Takes e rest kind e.params.length →
    exec (.badKindCommand kind .queued) s = .next ((s.popQueue rest).refusal e .badKind)) ∧
  (∀ (s : State) (e : Entry) (st : Status),
    s.refusal e st = if e.broadcast
      then { s with events := { s.events with latch := s.events.latch ||| Event.word .commandRefused } }
      else { s with lane := { s.lane with
        ready := s.lane.ready ++ [⟨e.source, e.kind + 128, e.tag, [statusOctet e.lostBefore st]⟩] } }) ∧
  (∀ lost : Bool, (∀ st, (statusOctet lost st).getLsbD 7 = lost) ∧
    ([Status.done, .badKind, .badLength, .badIndex, .slotTaken, .sceneLocked, .coreInUse, .badShape, .notReady,
      .gap, .busy, .quiet, .checkPassed, .checkFailed, .aborted].map fun st =>
        (statusOctet lost st).toNat % 128) = List.range 15) ∧
  (∀ (s : State) (k : Ticket) (st : Status) (data : List Byte), s.pushReply k st data =
    { s with lane := { s.lane with
      ready := s.lane.ready ++ [⟨k.source, k.kind + 128, k.tag, statusOctet k.lostBefore st :: data⟩] } })

/-! ## The queries -/

/-- R39, R75, R106, R131, R142, R177, R179 to R183, R188: a unicast query is answered with DONE and its data and
changes nothing but the queues; an index out of range gives BAD_INDEX. PATTERN_READ with its clear flag set then
clears the checker's counts. -/
def Obligations.QueriesAnswerWithTheirData : Prop :=
  ∀ (s : State) (e : Entry) (rest : List Entry) (kind : Byte) (n : Nat), s.Takes e rest kind n →
    e.broadcast = false →
    let done := fun data : List Byte => (s.popQueue rest).pushReply e.ticket .done data
    let none' := (s.popQueue rest).refusal e .badIndex
    let i := at8 e.params 0
    (kind = 1 → n = 0 → exec (.identify .queued) s = .next (done
      [0x2A, 0x61, 0x12, 0xE0, 1, octet s.chain.address.val, if s.chain.leader then 1 else 0,
        48, 32, 32, 4, 8, 16, 4, 0, 8, 4])) ∧
    (kind = 8 → n = 0 → exec (.eventsRead .queued) s = .next (done s.eventsData)) ∧
    (kind = 12 → n = 0 → exec (.chainRead .queued) s = .next (done s.chainData)) ∧
    (s.hold.condition ≠ .quiet →
      (kind = 17 → n = 1 → exec (.patternRead .queued) s = .next
        (if i = 0 then done s.patternData
         else { done s.patternData with events := { s.events with patWords := 0, patBits := 0 } })) ∧
      (kind = 21 → n = 1 → exec (.pickupRead .queued) s = .next
        (if h : i < 48 then done (pickupData ⟨i, h⟩ (s.pickups.get ⟨i, h⟩)) else none')) ∧
      (kind = 23 → n = 1 → exec (.feedRead .queued) s = .next
        (if h : i < 32 then done (s.feedData ⟨i, h⟩) else none')) ∧
      (kind = 25 → n = 4 → exec (.groupRead .queued) s = .next
        (done (groupData (at32 e.params 0) s.level.groups))) ∧
      (kind = 29 → n = 1 → exec (.coreRead .queued) s = .next
        (if h : i < 4 then done (coreData ⟨i, h⟩ (s.cores.get ⟨i, h⟩)) else none')) ∧
      (kind = 34 → n = 4 → exec (.tapRead .queued) s = .next
        (if h : i < 16 then done (tapReadData ⟨i, h⟩ (at16 e.params 1)
          (((s.scenes.get ⟨i, h⟩).taps.drop (at16 e.params 1)).take (min 54 (at8 e.params 3)))) else none')) ∧
      (kind = 37 → n = 1 → exec (.sceneRead .queued) s = .next
        (if h : i < 16 then done (s.sceneData ⟨i, h⟩) else none')) ∧
      (kind = 42 → n = 0 → exec (.cueRead .queued) s = .next (done s.cueData)) ∧
      (kind = 45 → n = 1 → exec (.guardRead .queued) s = .next
        (if h : i < 32 then done (guardData ⟨i, h⟩ (s.guards.get ⟨i, h⟩)) else none')))

/-- R174, R188: where every field of the DONE replies lies, counted in octets after the status octet, and the codes of
the enumerated values. That bits 23..31 of the latch, the live and the mask word of EVENTS_READ read 0 is log 28. -/
def Obligations.ReplyDataLayouts : Prop :=
  (∀ s : State, let d := s.eventsData
    d.length = 57 ∧ at32 d 0 = s.events.latch.setWidth 32 ∧
    (∀ i < 32, ((at32 d 4).getLsbD i = true ↔
      i = 0 ∧ s.chain.leader = false ∧ s.chain.portU.state ≠ .locked ∨ i = 1 ∧ s.chain.portD.state ≠ .locked ∨
      i = 14 ∧ (∃ f, (s.guards.get f).atLimit = true) ∨ i = 19 ∧ s.hold.state ≠ .running)) ∧
    at32 d 8 = s.events.mask.setWidth 32 ∧
    at32 d 12 = BitVec.ofNat 32 s.events.badU ∧ at32 d 16 = BitVec.ofNat 32 s.events.badD ∧
    at32 d 20 = BitVec.ofNat 32 s.events.broken ∧ at32 d 24 = BitVec.ofNat 32 s.events.badMessages ∧
    at16 d 28 = s.events.dropped % 65536 ∧ at32 d 30 = BitVec.ofNat 32 s.events.concealed ∧
    at32 d 34 = BitVec.ofNat 32 s.events.feedClips ∧ at32 d 38 = BitVec.ofNat 32 s.events.coreClips ∧
    at32 d 42 = BitVec.ofNat 32 s.events.patWords ∧
    at8 d 46 * 4294967296 + (at32 d 47).toNat = s.events.patBits % 1099511627776 ∧
    at8 d 51 = (if s.hold.line then 1 else 0) + (if s.hold.message then 2 else 0) +
      (if s.hold.guard then 4 else 0) + (if s.hold.start then 8 else 0) + (if s.hold.link then 16 else 0) ∧
    at8 d 52 = holdStateCode s.hold.state ∧ at16 d 53 = s.level.hold % 65536 ∧
    at8 d 55 = (if s.drivesHoldN then 1 else 0) ∧ at8 d 56 = conditionCode s.hold.condition) ∧
  (∀ s : State, let d := s.chainData
    d.length = 28 ∧ at8 d 0 = (if s.chain.leader then 1 else 0) ∧ at8 d 1 = s.chain.address.val ∧
    at8 d 2 = portStateCode s.chain.portU.state ∧ at8 d 3 = s.chain.portU.good % 256 ∧
    at8 d 4 = s.chain.portU.bad % 256 ∧ at8 d 5 = portStateCode s.chain.portD.state ∧
    at8 d 6 = s.chain.portD.good % 256 ∧ at8 d 7 = s.chain.portD.bad % 256 ∧
    at8 d 8 = s.chain.lockG % 256 ∧ at8 d 9 = s.chain.lockB % 256 ∧
    at8 d 10 = turnaroundCode s.chain.turnaround ∧ at8 d 11 = (if s.chain.discard then 1 else 0) ∧
    at32 d 12 = s.chain.switchNo ∧
    at32 d 16 = (if s.chain.leader then s.chain.counter else s.chain.expected) ∧
    at32 d 20 = BitVec.ofNat 32 s.events.badU ∧ at32 d 24 = BitVec.ofNat 32 s.events.badD) ∧
  (∀ (i : Fin 48) (q : Pickup), let d := pickupData i q
    d.length = 19 ∧ at8 d 0 = i.val ∧ at8 d 1 = q.slot.elim 255 Fin.val ∧
    at8 d 2 = (if q.enable then 1 else 0) ∧ at16 d 3 = q.openCode % 65536 ∧ at16 d 5 = q.closeCode % 65536 ∧
    at8 d 7 = q.hang % 256 ∧ at16 d 8 = q.floorCode % 65536 ∧ at8 d 10 = q.attack % 256 ∧
    at8 d 11 = q.release % 256 ∧ at8 d 12 = gateCode q.gate ∧ at16 d 13 = q.level % 65536 ∧
    at8 d 15 = q.hangCount % 256 ∧ at8 d 16 * 65536 + at16 d 17 = q.tickPeak % 16777216) ∧
  (∀ (f : Fin 32) (s : State), let d := s.feedData f
    d.length = 8 ∧ at8 d 0 = f.val ∧ at8 d 1 = (s.level.feeds.get f).slot.elim 255 Fin.val ∧
    at16 d 2 = (s.level.feeds.get f).trim % 65536 ∧ at16 d 4 = (s.level.feeds.get f).trimTarget % 65536 ∧
    at16 d 6 = (s.guards.get f).trim % 65536) ∧
  (∀ (m : BitVec 32) (gs : Bank 32 Group), let d := groupData m gs
    let before : Nat → Nat := fun n => ((List.range n).filter fun i => m.getLsbD i).length
    at32 d 0 = m ∧ d.length = 4 + 6 * before 32 ∧
    ∀ i : Fin 32, m.getLsbD i.val = true → let place := 4 + 6 * before i.val
      at16 d place = (gs.get i).current % 65536 ∧ at16 d (place + 2) = (gs.get i).target % 65536 ∧
      at8 d (place + 4) = (gs.get i).rate % 256 ∧ at8 d (place + 5) = phaseCode (gs.get i).phase) ∧
  (∀ (i : Fin 4) (c : RevCore), let d := coreData i c
    d.length = 46 ∧ at8 d 0 = i.val ∧ at8 d 1 = coreStateCode c.state ∧
    (∀ l : Fin 8, at16 d (2 + 2 * l.val) = c.lengths.get l % 65536) ∧
    at16 d 18 = c.lengths.items.sum % 65536 ∧ at8 d 20 = c.clearCount % 256 ∧
    at8 d 21 = c.inUse.damping % 256 ∧
    (∀ l : Fin 8, at8 d (22 + 3 * l.val) * 65536 + at16 d (23 + 3 * l.val) =
      c.inUse.absorption.get l % 16777216)) ∧
  (∀ (i : Fin 16) (s : State), let d := s.sceneData i
    let sc := s.scenes.get i
    d.length = 26 ∧ at8 d 0 = i.val ∧ at8 d 1 = sceneStateCode sc.state ∧ at16 d 2 = sc.taps.length % 65536 ∧
    at8 d 4 = sc.header.fadeCode % 256 ∧ at16 d 5 = sc.header.wander % 65536 ∧
    (∀ c : Fin 4, at16 d (7 + 2 * c.val) = sc.header.decay.get c % 65536 ∧
      at8 d (15 + c.val) = sc.header.damping.get c % 256) ∧
    at8 d 19 = resultCode sc.result ∧
    (∀ n why, sc.result = .failed n why → at16 d 20 = n % 65536 ∧ at8 d 22 = reasonCode why) ∧
    ((∀ n why, sc.result ≠ .failed n why) → at16 d 20 = 0 ∧ at8 d 22 = 0) ∧
    (∀ r, s.check = some r → r.scene = i → at16 d 23 = r.next % 65536) ∧
    (s.check.map CheckRun.scene ≠ some i → at16 d 23 = 0) ∧
    at8 d 25 = (if s.cue.target = some i then 1 else 0)) ∧
  (∀ (i : Fin 16) (first : Nat) (ts : List Tap), let d := tapReadData i first ts
    d.length = 4 + 8 * ts.length ∧ at8 d 0 = i.val ∧ at16 d 1 = first % 65536 ∧ at8 d 3 = ts.length % 256 ∧
    ∀ j t, ts[j]? = some t → (d.drop (4 + 8 * j)).take 8 = tapOctets t) ∧
  (∀ s : State, let d := s.cueData
    d.length = 19 ∧ at8 d 0 = cueStateCode s.cue.state ∧ at8 d 1 = s.cue.target.elim 255 Fin.val ∧
    (at8 d 2 = 1 ↔ ∃ i, s.cue.target = some i ∧ (s.scenes.get i).state = .outgoing) ∧ at8 d 2 ≤ 1 ∧
    at32 d 3 = s.cue.frameX ∧ at8 d 7 = (if s.cue.immediate then 1 else 0) ∧
    at8 d 8 = (s.sceneIn .active).elim 255 Fin.val ∧ at8 d 9 = (s.sceneIn .outgoing).elim 255 Fin.val ∧
    at16 d 10 = s.cue.weight % 65536 ∧ at16 d 12 = s.cue.stepSize % 65536 ∧
    at8 d 14 = (if s.cue.silence then 1 else 0) ∧ at16 d 15 = s.cue.wanderActive.getD 0 % 65536 ∧
    at16 d 17 = s.cue.wanderOutgoing.getD 0 % 65536) ∧
  (∀ (s : State) (st : SceneState), (∀ i, s.sceneIn st = some i → (s.scenes.get i).state = st) ∧
    (s.sceneIn st = none → ∀ i, (s.scenes.get i).state ≠ st)) ∧
  (∀ (f : Fin 32) (g : Guard), let d := guardData f g
    d.length = 23 ∧ at8 d 0 = f.val ∧ at8 d 1 = (if g.enable then 1 else 0) ∧
    at16 d 2 = g.floorCode % 65536 ∧ at8 d 4 = g.rise % 256 ∧ at8 d 5 = g.cutStep % 256 ∧
    at16 d 6 = g.limit % 65536 ∧ at16 d 8 = g.quietHold % 65536 ∧ at8 d 10 = g.interval % 256 ∧
    at8 d 11 = (if g.escalate then 1 else 0) ∧ at8 d 12 = guardStateCode g.state ∧
    at16 d 13 = g.trim % 65536 ∧ at8 d 15 = g.run % 256 ∧
    at8 d 16 * 65536 + at16 d 17 = g.prevPeak % 16777216 ∧ at8 d 19 = g.settle % 256 ∧
    at16 d 20 = g.timer % 65536 ∧ at8 d 22 = g.count % 256) ∧
  (∀ s : State, let d := s.patternData
    d.length = 18 ∧ at8 d 0 = (if s.pattern.genOn then 1 else 0) ∧ at8 d 1 = s.pattern.genSlot.val ∧
    at8 d 2 = (if s.pattern.chkOn then 1 else 0) ∧ at8 d 3 = s.pattern.chkSlot.val ∧
    at8 d 4 = (if s.pattern.inSync then 1 else 0) ∧ at8 d 5 = s.pattern.goodRun % 256 ∧
    at8 d 6 = s.pattern.mismatchRun % 256 ∧ at32 d 7 = BitVec.ofNat 32 s.events.patWords ∧
    at8 d 11 * 4294967296 + (at32 d 12).toNat = s.events.patBits % 1099511627776 ∧
    at16 d 16 = s.pattern.threshold % 65536) ∧
  ([GateState.opened, .hanging, .closed].map gateCode = [0, 1, 2] ∧
    [Phase.steady, .rising, .falling].map phaseCode = [0, 1, 2] ∧
    [CoreState.unshaped, .shaping, .shaped].map coreStateCode = [0, 1, 2] ∧
    [SceneState.empty, .editing, .checking, .ready, .cued, .active, .outgoing].map sceneStateCode =
      [0, 1, 2, 3, 4, 5, 6] ∧
    (∀ n why, [CheckResult.none, .passed, .failed n why].map resultCode = [0, 1, 2]) ∧
    [CheckReason.badSource, .badDestination, .badGroup, .coreLoop, .coreUnshaped].map reasonCode =
      [1, 2, 3, 4, 5] ∧
    [CueState.idle, .armed, .fading, .fadingArmed].map cueStateCode = [0, 1, 2, 3] ∧
    [GuardState.watch, .cut, .recover].map guardStateCode = [0, 1, 2] ∧
    [PortState.down, .seeking, .locked].map portStateCode = [0, 1, 2] ∧
    [Turnaround.chainEnd, .through, .detached].map turnaroundCode = [0, 1, 2] ∧
    [HoldState.running, .holding, .held, .resuming].map holdStateCode = [0, 1, 2, 3] ∧
    [Condition.running, .isolated, .quiet].map conditionCode = [0, 1, 2])

/-! ## The posted commands and SCENE_CHECK -/

/-- R6, R178, R180, R182, R187, R192: EVENTS_CLEAR clears the latches of its mask, EVENTS_MASK replaces every mask, and
both leave every counter and all else as it was. CHAIN_SET sets the clamped thresholds and nothing else. PATTERN_SET
replaces the pattern unit's settings, or is refused with BAD_INDEX or SLOT_TAKEN; the mark that its checker's next
word seeds it is log 25. -/
def Obligations.EventChainAndPatternSettings : Prop :=
  ((∀ (s : State) (e : Entry) (rest : List Entry), s.Takes e rest 9 4 →
      ∃ v : BitVec 23, exec (.eventsClear .queued) s =
          .next { s.popQueue rest with events := { s.events with latch := v } } ∧
        ∀ i < 23, v.getLsbD i = (s.events.latch.getLsbD i && !(at32 e.params 0).getLsbD i)) ∧
    (∀ (s : State) (e : Entry) (rest : List Entry), s.Takes e rest 10 4 → s.hold.condition ≠ .quiet →
      ∃ v : BitVec 23, exec (.eventsMask .queued) s =
          .next { s.popQueue rest with events := { s.events with mask := v } } ∧
        ∀ i < 23, v.getLsbD i = (at32 e.params 0).getLsbD i)) ∧
  ((∀ (s : State) (e : Entry) (rest : List Entry), s.Takes e rest 13 2 → s.hold.condition ≠ .quiet →
      exec (.chainSet .queued) s = .next { s.popQueue rest with
        chain := { s.chain with
          lockG := max 8 (min 255 (at8 e.params 0))
          lockB := max 2 (min 64 (at8 e.params 1)) } }) ∧
    (∀ (s : State) (e : Entry) (rest : List Entry), s.Takes e rest 16 6 → s.hold.condition ≠ .quiet →
      ((127 < at8 e.params 1 ∨ 127 < at8 e.params 3) →
        exec (.patternSet .queued) s = .next ((s.popQueue rest).refusal e .badIndex)) ∧
      (∀ g c : Fin 128, at8 e.params 1 = g.val → at8 e.params 3 = c.val →
        (at8 e.params 0 ≠ 0 → (∃ f, (s.level.feeds.get f).slot = some g) →
          exec (.patternSet .queued) s = .next ((s.popQueue rest).refusal e .slotTaken)) ∧
        (at8 e.params 0 = 0 ∨ (∀ f, (s.level.feeds.get f).slot ≠ some g) →
          ∃ p : Pattern, exec (.patternSet .queued) s = .next { s.popQueue rest with pattern := p } ∧
            p.genOn = (at8 e.params 0 != 0) ∧ p.genSlot = g ∧ p.chkOn = (at8 e.params 2 != 0) ∧
            p.chkSlot = c ∧ p.threshold = max 1 (min 65535 (at16 e.params 4)) ∧
            p.history = (if at8 e.params 0 ≠ 0 ∧ s.pattern.genOn = false then BitVec.allOnes 23
              else s.pattern.history) ∧
            p.inSync = (at8 e.params 2 != 0 && s.pattern.inSync) ∧ p.lastFrame = s.pattern.lastFrame ∧
            p.seedNext = (at8 e.params 2 != 0 && (!s.pattern.chkOn || s.pattern.seedNext ||
              c != s.pattern.chkSlot)) ∧
            p.predictor = s.pattern.predictor ∧
            p.goodRun = (if at8 e.params 2 = 0 then 0 else s.pattern.goodRun) ∧
            p.mismatchRun = (if at8 e.params 2 = 0 then 0 else s.pattern.mismatchRun)))))

/-- R26, R28, R39, R51, R178, R183: PICKUP_SET replaces one pickup's record with the clamped values and moves its gate
as R51 says; a pickup above 47 or a slot 128..254 is refused. FEED_SET replaces one feed's slot and trim target, keeping
its trim current, or is refused with BAD_INDEX or SLOT_TAKEN; GROUP_SET aims the groups of its mask and leaves the
others. -/
def Obligations.PickupFeedAndGroupSettings : Prop :=
  (∀ (s : State) (e : Entry) (rest : List Entry), s.Takes e rest 20 12 → s.hold.condition ≠ .quiet →
      ((47 < at8 e.params 0 ∨ (127 < at8 e.params 1 ∧ at8 e.params 1 < 255)) →
        exec (.pickupSet .queued) s = .next ((s.popQueue rest).refusal e .badIndex)) ∧
      (∀ (i : Fin 48) (slot : Option (Fin 128)), at8 e.params 0 = i.val →
        (slot = none ∧ at8 e.params 1 = 255 ∨ ∃ x, slot = some x ∧ at8 e.params 1 = x.val) →
        let old := s.pickups.get i
        let kept : Bool := at8 e.params 2 != 0 && old.enable
        ∃ ps : Bank 48 Pickup, exec (.pickupSet .queued) s = .next { s.popQueue rest with pickups := ps } ∧
          (∀ j, j ≠ i → ps.get j = s.pickups.get j) ∧
          ps.get i = { old with
            slot := slot
            enable := at8 e.params 2 != 0
            openCode := min 1024 (at16 e.params 3)
            closeCode := max (min 1024 (at16 e.params 3)) (min 1024 (at16 e.params 5))
            hang := at8 e.params 7
            floorCode := min 1024 (at16 e.params 8)
            attack := at8 e.params 10
            release := at8 e.params 11
            gate := if kept then old.gate else .opened
            level := if kept then old.level else 0
            hangCount := if kept then old.hangCount else 0 })) ∧
  ((∀ (s : State) (e : Entry) (rest : List Entry), s.Takes e rest 22 4 → s.hold.condition ≠ .quiet →
      ((31 < at8 e.params 0 ∨ (127 < at8 e.params 1 ∧ at8 e.params 1 < 255)) →
        exec (.feedSet .queued) s = .next ((s.popQueue rest).refusal e .badIndex)) ∧
      (∀ (f : Fin 32) (slot : Option (Fin 128)), at8 e.params 0 = f.val →
        (slot = none ∧ at8 e.params 1 = 255 ∨ ∃ x, slot = some x ∧ at8 e.params 1 = x.val) →
        ((∃ x, slot = some x ∧ ((∃ g, g ≠ f ∧ (s.level.feeds.get g).slot = some x) ∨
            (s.pattern.genOn = true ∧ s.pattern.genSlot = x))) →
          exec (.feedSet .queued) s = .next ((s.popQueue rest).refusal e .slotTaken)) ∧
        ((∀ x, slot = some x → (∀ g, g ≠ f → (s.level.feeds.get g).slot ≠ some x) ∧
            (s.pattern.genOn = false ∨ s.pattern.genSlot ≠ x)) →
          ∃ fs : Bank 32 Feed, exec (.feedSet .queued) s =
              .next { s.popQueue rest with level := { s.level with feeds := fs } } ∧
            (∀ g, g ≠ f → fs.get g = s.level.feeds.get g) ∧
            fs.get f = ⟨slot, (s.level.feeds.get f).trim, min 1024 (at16 e.params 2)⟩))) ∧
    (∀ (s : State) (e : Entry) (rest : List Entry), s.Takes e rest 24 7 → s.hold.condition ≠ .quiet →
      ∃ gs : Bank 32 Group, exec (.groupSet .queued) s =
          .next { s.popQueue rest with level := { s.level with groups := gs } } ∧
        ∀ i, (at32 e.params 0).getLsbD i.val = false ∧ gs.get i = s.level.groups.get i ∨
          (at32 e.params 0).getLsbD i.val = true ∧ (gs.get i).current = (s.level.groups.get i).current ∧
          (gs.get i).target = min 1024 (at16 e.params 4) ∧ (gs.get i).rate = at8 e.params 6 ∧
          ((gs.get i).phase = .steady ↔ (gs.get i).current = (gs.get i).target) ∧
          ((gs.get i).phase = .rising ↔ (gs.get i).target < (gs.get i).current)))

/-- R76 to R79: CORE_SHAPE is refused for its index, for a locked scene that references the core, or for its sum,
in that order; else the core starts its clear, READY scenes that reference it become EDITING, and a check of such
a scene is aborted. -/
def Obligations.CoreShapeStartsClear : Prop :=
  ∀ (s : State) (e : Entry) (rest : List Entry), s.Takes e rest 28 17 → s.hold.condition ≠ .quiet →
    (3 < at8 e.params 0 → exec (.coreShape .queued) s = .next ((s.popQueue rest).refusal e .badIndex)) ∧
    (∀ c : Fin 4, at8 e.params 0 = c.val →
      let length := fun l : Fin 8 => max 64 (min 4095 (at16 e.params (1 + 2 * l.val)))
      let sum := ((List.finRange 8).map length).sum
      let locked := ∃ i, (s.scenes.get i).state.locked = true ∧ (s.scenes.get i).references c = true
      (locked → exec (.coreShape .queued) s = .next ((s.popQueue rest).refusal e .coreInUse)) ∧
      (¬locked → 16384 < sum →
        exec (.coreShape .queued) s = .next ((s.popQueue rest).refusal e .badShape)) ∧
      (¬locked → sum ≤ 16384 → ∃ t, exec (.coreShape .queued) s = .next t ∧
        (∀ d, d ≠ c → t.cores.get d = s.cores.get d) ∧
        t.cores.get c = { s.cores.get c with
          state := .shaping
          clearCount := 0
          lengths := (t.cores.get c).lengths
          index := (t.cores.get c).index
          damp := (t.cores.get c).damp } ∧
        (∀ l, (t.cores.get c).lengths.get l = length l ∧ (t.cores.get c).index.get l = 0 ∧
          (t.cores.get c).damp.get l = 0) ∧
        (∀ i, t.scenes.get i = { s.scenes.get i with
          state := if (s.scenes.get i).references c = true ∧
              ((s.scenes.get i).state = .ready ∨ s.check.map CheckRun.scene = some i) then .editing
            else (s.scenes.get i).state }) ∧
        (∀ r, s.check = some r → (s.scenes.get r.scene).references c = true →
          t.check = none ∧
          t.lane.ready = s.lane.ready ++
            (r.replyTo.toList.map fun k => k.reply .aborted [octet r.scene.val])) ∧
        (∀ r, s.check = some r → (s.scenes.get r.scene).references c = false →
          t.check = s.check ∧ t.lane.ready = s.lane.ready) ∧
        (s.check = none → t.check = none ∧ t.lane.ready = s.lane.ready) ∧
        t = { s.popQueue rest with
          cores := t.cores, scenes := t.scenes, check := t.check
          lane := { (s.popQueue rest).lane with ready := t.lane.ready } }))

/-- R97, R101 to R105: SCENE_HEAD, TAP_WRITE and SCENE_CLEAR on a scene that is not locked and not being checked:
the header clamped, the records written and those past 1,023 dropped with a DONE reply, the record emptied. -/
def Obligations.SceneEditingChangesTheRecord : Prop :=
  ∀ (s : State) (e : Entry) (rest : List Entry) (kind : Byte) (n : Nat) (i : Fin 16), s.Takes e rest kind n →
    s.hold.condition ≠ .quiet → at8 e.params 0 = i.val → (s.scenes.get i).state.locked = false →
    s.check.map CheckRun.scene ≠ some i →
    (kind = 32 → n = 16 → ∃ scs : Bank 16 Scene,
      exec (.sceneHead .queued) s = .next { s.popQueue rest with scenes := scs } ∧
      (∀ j, j ≠ i → scs.get j = s.scenes.get j) ∧
      (scs.get i).state = .editing ∧ (scs.get i).taps = (s.scenes.get i).taps ∧
      (scs.get i).result = (s.scenes.get i).result ∧ (scs.get i).header.Lawful ∧
      (scs.get i).header.fadeCode = min 13 (at8 e.params 1) ∧
      (at16 e.params 2 = 0 → (scs.get i).header.wander = 0) ∧
      (0 < at16 e.params 2 → (scs.get i).header.wander = max 1000 (min 60000 (at16 e.params 2))) ∧
      (∀ c, (scs.get i).header.damping.get c = min 240 (at8 e.params (12 + c.val)) ∧
        (at16 e.params (4 + 2 * c.val) = 0 → (scs.get i).header.decay.get c = 0) ∧
        (0 < at16 e.params (4 + 2 * c.val) → (scs.get i).header.decay.get c =
          max 100 (min 12000 (at16 e.params (4 + 2 * c.val)))))) ∧
    (kind = 33 → at8 e.params 3 ≤ 54 → n = 4 + 8 * at8 e.params 3 →
      let first := at16 e.params 1
      let count := at8 e.params 3
      let written := min count (1024 - first)
      let old := (s.scenes.get i).taps
      (old.length < first → exec (.tapWrite .queued) s = .next ((s.popQueue rest).refusal e .gap)) ∧
      (first ≤ old.length → old.length ≤ 1024 → ∃ (scs : Bank 16 Scene) (t : State),
        exec (.tapWrite .queued) s = .next t ∧
        t = (if written < count ∧ e.broadcast = false
          then ({ s.popQueue rest with scenes := scs } : State).pushReply e.ticket .done
            (octet i.val :: octets2 first ++ [octet written])
          else { s.popQueue rest with scenes := scs }) ∧
        (∀ j, j ≠ i → scs.get j = s.scenes.get j) ∧
        (scs.get i).state = .editing ∧ (scs.get i).header = (s.scenes.get i).header ∧
        (scs.get i).result = (s.scenes.get i).result ∧
        (scs.get i).taps.length = max old.length (first + written) ∧
        (∀ j, j < first ∨ first + written ≤ j → (scs.get i).taps[j]? = old[j]?) ∧
        (∀ j < written, (scs.get i).taps[first + j]? = some (tapAt e.params (4 + 8 * j))))) ∧
    (kind = 35 → n = 1 → ∃ scs : Bank 16 Scene,
      exec (.sceneClear .queued) s = .next { s.popQueue rest with scenes := scs } ∧
      (∀ j, j ≠ i → scs.get j = s.scenes.get j) ∧ (scs.get i).IsReset)

/-- R97, R101 to R105, R107, R111: the scene commands refuse a scene above 15 with BAD_INDEX and a CUED, ACTIVE or
OUTGOING scene with SCENE_LOCKED, TAP_WRITE past the tap count with GAP; one that is taken for the scene being checked
aborts the check, whose entry becomes READY with ABORTED, and is applied after the abort: the header clamped, the
records written and those past 1,023 dropped with a DONE reply, the record emptied. -/
def Obligations.LockedScenesRefuseAndEditsAbortChecks : Prop :=
  (∀ (s : State) (e : Entry) (rest : List Entry) (kind : Byte) (n : Nat) (row : Taking → Instr),
    (kind = 32 ∧ n = 16 ∧ row = .sceneHead ∨ kind = 33 ∧ at8 e.params 3 ≤ 54 ∧
      n = 4 + 8 * at8 e.params 3 ∧ row = .tapWrite ∨ kind = 35 ∧ n = 1 ∧ row = .sceneClear ∨
      kind = 36 ∧ n = 1 ∧ row = .sceneCheck) →
    s.Takes e rest kind n → s.hold.condition ≠ .quiet →
    (15 < at8 e.params 0 → exec (row .queued) s = .next ((s.popQueue rest).refusal e .badIndex)) ∧
    (∀ i : Fin 16, at8 e.params 0 = i.val → (s.scenes.get i).state.locked = true →
      exec (row .queued) s = .next ((s.popQueue rest).refusal e .sceneLocked)) ∧
    (∀ i : Fin 16, at8 e.params 0 = i.val → (s.scenes.get i).state.locked = false → kind = 33 →
      (s.scenes.get i).taps.length < at16 e.params 1 →
      exec (row .queued) s = .next ((s.popQueue rest).refusal e .gap)) ∧
    (∀ (i : Fin 16) (r : CheckRun), at8 e.params 0 = i.val → (s.scenes.get i).state.locked = false →
      s.check = some r → r.scene = i → kind ≠ 36 →
      let old := s.scenes.get i
      let first := at16 e.params 1
      let count := at8 e.params 3
      let written := min count (1024 - first)
      (kind = 33 → first ≤ old.taps.length) →
      ∃ t, exec (row .queued) s = .next t ∧ t.check = none ∧
        (t.scenes.get i).state = (if kind = 35 then .empty else .editing) ∧
        (kind ≠ 35 → (t.scenes.get i).result = old.result) ∧
        (kind = 32 →
          let h := (t.scenes.get i).header
          (t.scenes.get i).taps = old.taps ∧ h.Lawful ∧ h.fadeCode = min 13 (at8 e.params 1) ∧
          (at16 e.params 2 = 0 → h.wander = 0) ∧
          (0 < at16 e.params 2 → h.wander = max 1000 (min 60000 (at16 e.params 2))) ∧
          ∀ c, h.damping.get c = min 240 (at8 e.params (12 + c.val)) ∧
            (at16 e.params (4 + 2 * c.val) = 0 → h.decay.get c = 0) ∧
            (0 < at16 e.params (4 + 2 * c.val) →
              h.decay.get c = max 100 (min 12000 (at16 e.params (4 + 2 * c.val))))) ∧
        (kind = 33 →
          (t.scenes.get i).header = old.header ∧
          (t.scenes.get i).taps.length = max old.taps.length (first + written) ∧
          (∀ j, j < first ∨ first + written ≤ j → (t.scenes.get i).taps[j]? = old.taps[j]?) ∧
          ∀ j < written, (t.scenes.get i).taps[first + j]? = some (tapAt e.params (4 + 8 * j))) ∧
        (kind = 35 → (t.scenes.get i).IsReset) ∧
        t.lane = { (s.popQueue rest).lane with ready := s.lane.ready ++
          (r.replyTo.toList.map fun k => k.reply .aborted [octet i.val]) ++
          if kind = 33 ∧ written < count ∧ e.broadcast = false
            then [e.ticket.reply .done (octet i.val :: octets2 first ++ [octet written])] else [] } ∧
        (∀ j, j ≠ i → t.scenes.get j = s.scenes.get j) ∧
        t = { s with check := none, scenes := t.scenes, lane := t.lane }))

/-- R107: SCENE_CHECK of a scene that may be checked starts the check with the entry reserved for a unicast
command, or passes an empty tap list at once; an EMPTY scene gives NOT_READY and a running check BUSY. -/
def Obligations.SceneCheckStartsOrRefuses : Prop :=
  ∀ (s : State) (e : Entry) (rest : List Entry) (i : Fin 16), s.Takes e rest 36 1 →
    s.hold.condition ≠ .quiet → at8 e.params 0 = i.val → (s.scenes.get i).state.locked = false →
    ((s.scenes.get i).state = .empty →
      exec (.sceneCheck .queued) s = .next ((s.popQueue rest).refusal e .notReady)) ∧
    ((s.scenes.get i).state ≠ .empty → s.check.isSome = true →
      exec (.sceneCheck .queued) s = .next ((s.popQueue rest).refusal e .busy)) ∧
    ((s.scenes.get i).state ≠ .empty → s.check = none → ∃ scs : Bank 16 Scene,
      (∀ j, j ≠ i → scs.get j = s.scenes.get j) ∧
      (scs.get i).taps = (s.scenes.get i).taps ∧ (scs.get i).header = (s.scenes.get i).header ∧
      ((s.scenes.get i).taps ≠ [] →
        (scs.get i).state = .checking ∧ (scs.get i).result = (s.scenes.get i).result ∧
        exec (.sceneCheck .queued) s = .next { s.popQueue rest with
          scenes := scs
          check := some ⟨i, 0, if e.broadcast then none else some e.ticket⟩ }) ∧
      ((s.scenes.get i).taps = [] →
        (scs.get i).state = .ready ∧ (scs.get i).result = .passed ∧
        exec (.sceneCheck .queued) s = .next (if e.broadcast then { s.popQueue rest with scenes := scs }
          else ({ s.popQueue rest with scenes := scs } : State).pushReply e.ticket .checkPassed
            [octet i.val, 0, 0])))

/-- R91, R100, R115 to R120: CUE is refused for its index or its scene's state, has no effect on the ACTIVE scene,
and else arms the scene or replaces the armed cue; CUE_CANCEL releases the armed cue. -/
def Obligations.CueArmsReplacesAndCancels : Prop :=
  (∀ (s : State) (e : Entry) (rest : List Entry), s.Takes e rest 40 6 → s.hold.condition ≠ .quiet →
    (15 < at8 e.params 0 → exec (.cue .queued) s = .next ((s.popQueue rest).refusal e .badIndex)) ∧
    (∀ i : Fin 16, at8 e.params 0 = i.val →
      let st := (s.scenes.get i).state
      (st = .empty ∨ st = .editing ∨ st = .checking →
        exec (.cue .queued) s = .next ((s.popQueue rest).refusal e .notReady)) ∧
      (st = .active → exec (.cue .queued) s = .next (s.popQueue rest)) ∧
      (s.SceneLaw → st = .ready ∨ st = .cued ∨ st = .outgoing →
        ∃ t, exec (.cue .queued) s = .next t ∧
          t.cue = { s.cue with
            state := if s.cue.state.fades then .fadingArmed else .armed
            target := some i
            frameX := at32 e.params 1
            immediate := at8 e.params 5 % 2 == 1
            deferred := s.cue.state.fades } ∧
          (t.scenes.get i) = { s.scenes.get i with state := if st = .outgoing then .outgoing else .cued } ∧
          (∀ j, j ≠ i → t.scenes.get j =
            if (s.scenes.get j).state = .cued then { s.scenes.get j with state := .ready }
            else s.scenes.get j) ∧
          (∀ c, (t.cores.get c) = { s.cores.get c with armed := (t.cores.get c).armed } ∧
            ∃ g, (t.cores.get c).armed = some g ∧ g.damping = (s.scenes.get i).header.damping.get c ∧
              ∀ l, g.absorption.get l =
                absorption ((s.cores.get c).lengths.get l) ((s.scenes.get i).header.decay.get c)) ∧
          t.events.latch = (if s.cue.state.hasCue then s.events.latch ||| Event.word .cueReplaced
            else s.events.latch) ∧
          t = { s.popQueue rest with
            scenes := t.scenes, cue := t.cue, cores := t.cores
            events := { s.events with latch := t.events.latch } }))) ∧
  (∀ (s : State) (e : Entry) (rest : List Entry), s.Takes e rest 41 0 → s.hold.condition ≠ .quiet →
    (s.cue.state = .idle ∨ s.cue.state = .fading →
      exec (.cueCancel .queued) s = .next (s.popQueue rest)) ∧
    (s.SceneLaw → s.cue.state = .armed ∨ s.cue.state = .fadingArmed →
      ∃ t, exec (.cueCancel .queued) s = .next t ∧
        t.cue = { s.cue with
          state := if s.cue.state = .armed then .idle else .fading, target := none, deferred := false } ∧
        (∀ j, t.scenes.get j =
          if (s.scenes.get j).state = .cued then { s.scenes.get j with state := .ready }
          else s.scenes.get j) ∧
        (∀ c, t.cores.get c = { s.cores.get c with armed := none }) ∧
        t = { s.popQueue rest with scenes := t.scenes, cue := t.cue, cores := t.cores }))

/-- R133, R134, R141: GUARD_SET replaces the clamped parameters of the feeds of its mask and moves their working
part as the table says; the other feeds stay. A limit that ends a recovery keeps the recovery count (log 18), and the
beginning of HOWL_LIMIT's condition is judged over the whole command (log 17). -/
def Obligations.GuardSetReplacesParameters : Prop :=
  ∀ (s : State) (e : Entry) (rest : List Entry), s.Takes e rest 44 15 → s.hold.condition ≠ .quiet →
    ∃ t, exec (.guardSet .queued) s = .next t ∧
      (∀ f, (at32 e.params 0).getLsbD f.val = false → t.guards.get f = s.guards.get f) ∧
      (∀ f, (at32 e.params 0).getLsbD f.val = true →
        let old := s.guards.get f
        let new := t.guards.get f
        let on : Bool := at8 e.params 4 != 0
        let limit := min 512 (at16 e.params 9)
        new.enable = on ∧ new.floorCode = min 1024 (at16 e.params 5) ∧
        new.rise = max 2 (min 64 (at8 e.params 7)) ∧ new.cutStep = max 8 (min 128 (at8 e.params 8)) ∧
        new.limit = limit ∧ new.quietHold = max 100 (at16 e.params 11) ∧
        new.interval = max 1 (at8 e.params 13) ∧ new.escalate = (at8 e.params 14 != 0) ∧
        (old.enable ≠ on → new.state = .watch ∧ new.trim = 0 ∧ new.run = 0 ∧ new.prevPeak = 0 ∧
          new.settle = 0 ∧ new.timer = 0 ∧ new.count = 0) ∧
        (old.enable = false → on = false → new.state = old.state ∧ new.trim = old.trim ∧ new.run = old.run ∧
          new.prevPeak = old.prevPeak ∧ new.settle = old.settle ∧ new.timer = old.timer ∧
          new.count = old.count) ∧
        (old.enable = true → on = true → new.trim = min old.trim limit ∧ new.run = old.run ∧
          new.prevPeak = old.prevPeak ∧ new.settle = old.settle ∧ new.timer = old.timer ∧
          new.count = old.count ∧
          new.state = (if old.state = .recover ∧ limit = 0 ∧ 0 < old.trim then .watch else old.state))) ∧
      t.events.latch = (if s.liveHowlLimit = false ∧ t.liveHowlLimit = true
        then s.events.latch ||| Event.word .howlLimit else s.events.latch) ∧
      t = { s.popQueue rest with
        guards := t.guards, events := { s.events with latch := t.events.latch } }

/-- R145, R146, R148, R149, R151: HOLD adds MESSAGE and drives HOLD_N; RESUME removes MESSAGE, GUARD and START, and LINK
in RUNNING; neither moves the level or the hold state. QUIET clears the signal memories, aborts a check, whose scene
keeps its header, taps and last result, latches HOLD_ENTERED where it enters HELD from RUNNING or RESUMING, sets the
level to 1024 and holds under START. Each computation begins with a sample of HOLD_N, which adds LINE when the line is
low and removes it when it is high, and changes no other source. -/
def Obligations.HoldResumeAndQuiet : Prop :=
  (∀ (s : State) (e : Entry) (rest : List Entry), s.Takes e rest 48 0 → s.hold.condition ≠ .quiet →
    ∃ t, exec (.hold .queued) s = .next t ∧ t.drivesHoldN = true ∧
      t = { s.popQueue rest with hold := { s.hold with message := true } }) ∧
  (∀ (s : State) (e : Entry) (rest : List Entry), s.Takes e rest 49 0 → s.hold.condition ≠ .quiet →
    ∃ t, exec (.resume .queued) s = .next t ∧ t.drivesHoldN = false ∧
      t = { s.popQueue rest with hold := { s.hold with
        message := false, guard := false, start := false
        link := s.hold.link && (s.hold.condition != .running) } }) ∧
  (∀ (s : State) (e : Entry) (rest : List Entry), s.Takes e rest 3 0 → s.hold.condition ≠ .quiet →
    ∃ t, exec (.quiet .queued) s = .next t ∧ t.drivesHoldN = false ∧
      t.hold = { s.hold with
        message := false, guard := false, start := true, state := .held, condition := .quiet } ∧
      t.level = { s.level with hold := 1024 } ∧ s.MemoriesCleared t ∧ t.check = none ∧
      (s.check = none → t.scenes = s.scenes ∧ t.lane = (s.popQueue rest).lane) ∧
      (∀ r, s.check = some r → t.scenes.get r.scene = { s.scenes.get r.scene with state := .editing } ∧
        (∀ j, j ≠ r.scene → t.scenes.get j = s.scenes.get j) ∧
        t.lane = { (s.popQueue rest).lane with ready := s.lane.ready ++
          (r.replyTo.toList.map fun k => k.reply .aborted [octet r.scene.val]) }) ∧
      t.events = { s.events with latch := s.events.latch |||
        (if s.hold.state = .running ∨ s.hold.state = .resuming then Event.word .holdEntered else 0) } ∧
      t.chain = s.chain ∧ t.cue = s.cue ∧ t.guards = s.guards ∧ t.pattern = s.pattern ∧ t.pins = s.pins) ∧
  (∀ (s : State) (k : FrameNo), let low : Bool := s.pins.holdPulled ||
      (!s.pins.rstLow && (s.hold.message || s.hold.guard))
    s.sampleHold = { s with hold := { s.hold with line := low } } ∧
    (s.compute k).hold = { s.hold with
      line := low, guard := (s.compute k).hold.guard, state := (s.compute k).hold.state } ∧
    (s.hold.guard = true → (s.compute k).hold.guard = true))
end

