-- ==== Sys2Proof/Laws/Bank.lean ====
section
/-!
SUPPORT. The laws of `Bank`: what each way of building a bank reads back as, and extensionality.
-/

namespace Sys2Proof.Machine

variable {n : Nat} {α β : Type}

@[simp] theorem Bank.get_ofFn (f : Fin n → α) (i : Fin n) : (Bank.ofFn f).get i = f i := by
  simp [Bank.get, Bank.ofFn]
  rfl

@[simp] theorem Bank.get_fill (a : α) (i : Fin n) : (Bank.fill n a).get i = a := by
  simp [Bank.get, Bank.fill]

@[simp] theorem Bank.get_map (f : α → β) (b : Bank n α) (i : Fin n) : (b.map f).get i = f (b.get i) := by
  simp [Bank.get, Bank.map]
  rfl

@[simp] theorem Bank.get_mapIdx (f : Fin n → α → β) (b : Bank n α) (i : Fin n) :
    (Bank.mapIdx f b).get i = f i (b.get i) := by
  simp [Bank.mapIdx]

theorem Bank.get_set (b : Bank n α) (i j : Fin n) (a : α) :
    (b.set i a).get j = if i = j then a else b.get j := by
  simp [Bank.get, Bank.set, List.getElem_set, Fin.ext_iff]
  rfl

@[simp] theorem Bank.get_set_self (b : Bank n α) (i : Fin n) (a : α) : (b.set i a).get i = a := by
  simp [Bank.get_set]

theorem Bank.get_set_of_ne (b : Bank n α) {i j : Fin n} (h : j ≠ i) (a : α) :
    (b.set i a).get j = b.get j := by
  simp [Bank.get_set, h.symm]

theorem Bank.get_modify (b : Bank n α) (i j : Fin n) (f : α → α) :
    (b.modify i f).get j = if i = j then f (b.get j) else b.get j := by
  unfold Bank.modify
  rw [Bank.get_set]
  split
  · rename_i h; rw [h]
  · rfl

@[simp] theorem Bank.get_modify_self (b : Bank n α) (i : Fin n) (f : α → α) :
    (b.modify i f).get i = f (b.get i) := by
  simp [Bank.get_modify]

theorem Bank.get_modify_of_ne (b : Bank n α) {i j : Fin n} (h : j ≠ i) (f : α → α) :
    (b.modify i f).get j = b.get j := by
  simp [Bank.get_modify, h.symm]

/-- Two banks that read alike are equal. -/
theorem Bank.ext_get {b c : Bank n α} (h : ∀ i, b.get i = c.get i) : b = c := by
  have hi : b.items = c.items := by
    refine List.ext_getElem (b.size.trans c.size.symm) fun k hk _ => ?_
    simpa [Bank.get] using h ⟨k, b.size ▸ hk⟩
  cases b; cases c; cases hi; rfl

/-- A bank is the list of its things in order. -/
theorem Bank.items_eq_ofFn (b : Bank n α) : b.items = List.ofFn b.get := by
  refine List.ext_getElem (by simp [b.size]) fun k hk _ => ?_
  simp [Bank.get]

/-- `any` holds when some thing of the bank has the property. -/
theorem Bank.any_iff (b : Bank n α) (p : α → Bool) : b.any p = true ↔ ∃ i, p (b.get i) = true := by
  simp [Bank.any, Bank.items_eq_ofFn]

theorem Bank.any_false_iff (b : Bank n α) (p : α → Bool) : b.any p = false ↔ ∀ i, p (b.get i) = false := by
  simp [Bank.any, Bank.items_eq_ofFn]

/-- A modification that changes nothing at its place changes nothing. -/
theorem Bank.modify_eq_self (b : Bank n α) (i : Fin n) (f : α → α) (h : f (b.get i) = b.get i) :
    b.modify i f = b := by
  refine Bank.ext_get fun j => ?_
  rw [Bank.get_modify]
  split
  · rename_i hij; rw [← hij, h]
  · rfl

/-- A property of every thing is kept when one thing is replaced by a thing that has it. -/
theorem Bank.forall_modify {b : Bank n α} {P : Fin n → α → Prop} {i : Fin n} {f : α → α}
    (h : ∀ j, P j (b.get j)) (hf : P i (f (b.get i))) (j : Fin n) : P j ((b.modify i f).get j) := by
  rw [Bank.get_modify]
  split
  · rename_i hij; exact hij ▸ hf
  · exact h j

end Sys2Proof.Machine
end

