-- ==== Sys2Proof/Laws/SampleMem.lean ====
section
/-!
SUPPORT. The laws of the sample memories: read after write, read after a clear, and that every operation keeps
the canonical form.
-/

namespace Sys2Proof.Machine

@[simp] theorem SampleMem.read_nil (p : Nat) : SampleMem.read [] p = 0 := rfl

@[simp] theorem SampleMem.wf_nil : SampleMem.wf [] = true := rfl

theorem SampleMem.wfFrom_cons (lo p : Nat) (v : Sample) (rest : SampleMem) :
    SampleMem.wfFrom lo ((p, v) :: rest) = true ↔ lo ≤ p ∧ v ≠ 0 ∧ SampleMem.wfFrom (p + 1) rest = true := by
  simp [SampleMem.wfFrom, SampleMem.unlisted, and_assoc]

/-- The canonical form from a lower position on. -/
theorem SampleMem.wfFrom_mono {lo hi : Nat} {m : SampleMem} (h : lo ≤ hi) (hm : SampleMem.wfFrom hi m = true) :
    SampleMem.wfFrom lo m = true := by
  cases m with
  | nil => rfl
  | cons c rest =>
    rw [SampleMem.wfFrom_cons] at hm ⊢
    exact ⟨h.trans hm.1, hm.2⟩

/-- Below its first position a canonical memory reads 0. -/
theorem SampleMem.read_below {lo p : Nat} {m : SampleMem} (hm : SampleMem.wfFrom lo m = true) (h : p < lo) :
    m.read p = 0 := by
  induction m generalizing lo with
  | nil => rfl
  | cons c rest ih =>
    obtain ⟨q, v⟩ := c
    rw [SampleMem.wfFrom_cons] at hm
    rw [SampleMem.read, if_neg (by omega)]
    exact ih hm.2.2 (by omega)

/-- A write at or above the bound keeps the canonical form. -/
theorem SampleMem.write_wfFrom {lo p : Nat} {m : SampleMem} (v : Sample)
    (hm : SampleMem.wfFrom lo m = true) (h : lo ≤ p) : SampleMem.wfFrom lo (m.write p v) = true := by
  induction m generalizing lo with
  | nil =>
    rw [SampleMem.write]
    split
    · rfl
    · exact (SampleMem.wfFrom_cons ..).2 ⟨h, ‹_›, rfl⟩
  | cons c rest ih =>
    obtain ⟨q, u⟩ := c
    have hm' := hm
    rw [SampleMem.wfFrom_cons] at hm
    rw [SampleMem.write]
    split
    · exact (SampleMem.wfFrom_cons ..).2 ⟨hm.1, hm.2.1, ih hm.2.2 (by omega)⟩
    · split
      · split
        · exact SampleMem.wfFrom_mono (by omega) hm.2.2
        · rename_i hq hv
          exact (SampleMem.wfFrom_cons ..).2 ⟨h, hv, hq ▸ hm.2.2⟩
      · split
        · exact hm'
        · rename_i hv
          refine (SampleMem.wfFrom_cons ..).2 ⟨h, hv, ?_⟩
          exact (SampleMem.wfFrom_cons ..).2 ⟨by omega, hm.2.1, hm.2.2⟩

/-- A write keeps the canonical form. -/
theorem SampleMem.write_wf {m : SampleMem} (hm : m.wf = true) (p : Nat) (v : Sample) :
    (m.write p v).wf = true :=
  SampleMem.write_wfFrom v hm (Nat.zero_le p)

theorem SampleMem.read_write_from {lo : Nat} {m : SampleMem} (hm : SampleMem.wfFrom lo m = true)
    (p : Nat) (v : Sample) (q : Nat) : (m.write p v).read q = if q = p then v else m.read q := by
  induction m generalizing lo with
  | nil =>
    rw [SampleMem.write]
    split
    · rename_i hv; subst hv; split <;> rfl
    · simp only [SampleMem.read, eq_comm]
  | cons c rest ih =>
    obtain ⟨r, u⟩ := c
    rw [SampleMem.wfFrom_cons] at hm
    rw [SampleMem.write]
    split
    · rw [SampleMem.read, SampleMem.read, ih hm.2.2]
      by_cases hr : r = q
      · rw [if_pos hr, if_pos hr, if_neg (by omega)]
      · rw [if_neg hr, if_neg hr]
    · split
      · rename_i hrp
        subst hrp
        split
        · rename_i hv
          subst hv
          by_cases hq : q = r
          · rw [if_pos hq, hq, SampleMem.read_below hm.2.2 (by omega)]; rfl
          · rw [if_neg hq, SampleMem.read, if_neg (Ne.symm hq)]
        · by_cases hq : q = r
          · rw [if_pos hq, SampleMem.read, if_pos hq.symm]
          · rw [if_neg hq, SampleMem.read, SampleMem.read, if_neg (Ne.symm hq), if_neg (Ne.symm hq)]
      · split
        · rename_i hv
          subst hv
          split
          · rw [SampleMem.read, if_neg (by omega), SampleMem.read_below hm.2.2 (by omega)]; rfl
          · rfl
        · simp only [SampleMem.read, eq_comm]

/-- Read after write: the written position reads the value. -/
theorem SampleMem.read_write_same {m : SampleMem} (hm : m.wf = true) (p : Nat) (v : Sample) :
    (m.write p v).read p = v := by
  rw [SampleMem.read_write_from hm, if_pos rfl]

/-- Read after write: every other position reads as before. -/
theorem SampleMem.read_write_other {m : SampleMem} (hm : m.wf = true) {p q : Nat} (v : Sample) (h : q ≠ p) :
    (m.write p v).read q = m.read q := by
  rw [SampleMem.read_write_from hm, if_neg h]

/-- The positions a write may list. -/
theorem SampleMem.mem_write {m : SampleMem} {p : Nat} {v : Sample} {c : Nat × Sample}
    (h : c ∈ m.write p v) : c = (p, v) ∨ c ∈ m := by
  induction m with
  | nil =>
    rw [SampleMem.write] at h
    split at h <;> simp_all
  | cons d rest ih =>
    obtain ⟨q, u⟩ := d
    rw [SampleMem.write] at h
    split at h
    · rcases List.mem_cons.1 h with h | h
      · exact .inr (h ▸ List.mem_cons_self)
      · exact (ih h).imp_right (List.mem_cons_of_mem _)
    · split at h
      · split at h
        · exact .inr (List.mem_cons_of_mem _ h)
        · exact (List.mem_cons.1 h).imp_right (List.mem_cons_of_mem _)
      · split at h
        · exact .inr h
        · exact List.mem_cons.1 h

/-- A write inside a memory's size stays inside it. -/
theorem SampleMem.write_bounded {m : SampleMem} {p size : Nat} (hm : ∀ c ∈ m, c.1 < size) (hp : p < size)
    (v : Sample) : ∀ c ∈ m.write p v, c.1 < size := by
  intro c hc
  rcases SampleMem.mem_write hc with rfl | h
  · exact hp
  · exact hm c h

theorem SampleMem.clearRange_wfFrom {start : Nat} {m : SampleMem} (lo hi : Nat)
    (hm : SampleMem.wfFrom start m = true) : SampleMem.wfFrom start (m.clearRange lo hi) = true := by
  induction m generalizing start with
  | nil => rfl
  | cons c rest ih =>
    obtain ⟨p, v⟩ := c
    rw [SampleMem.wfFrom_cons] at hm
    have hr := ih hm.2.2
    unfold SampleMem.clearRange at hr ⊢
    rw [List.filter_cons]
    split
    · exact (SampleMem.wfFrom_cons ..).2 ⟨hm.1, hm.2.1, hr⟩
    · exact SampleMem.wfFrom_mono (by omega) hr

/-- R80: a clear keeps the canonical form. -/
theorem SampleMem.clearRange_wf {m : SampleMem} (hm : m.wf = true) (lo hi : Nat) :
    (m.clearRange lo hi).wf = true :=
  SampleMem.clearRange_wfFrom lo hi hm

/-- R80: a cleared position reads 0, every other as before. -/
theorem SampleMem.read_clearRange (m : SampleMem) (hm : m.wf = true) (lo hi p : Nat) :
    (m.clearRange lo hi).read p = if lo ≤ p ∧ p < hi then 0 else m.read p := by
  suffices ∀ start, SampleMem.wfFrom start m = true →
      (m.clearRange lo hi).read p = if lo ≤ p ∧ p < hi then 0 else m.read p from this 0 hm
  clear hm
  induction m with
  | nil => intro _ _; exact (ite_self _).symm
  | cons c rest ih =>
    obtain ⟨q, v⟩ := c
    intro start hm
    rw [SampleMem.wfFrom_cons] at hm
    have hr := ih _ hm.2.2
    unfold SampleMem.clearRange at hr ⊢
    rw [List.filter_cons]
    by_cases hin : lo ≤ q ∧ q < hi
    · rw [if_neg (by simp [hin.1, hin.2]), hr]
      split
      · rfl
      · rename_i hp
        rw [SampleMem.read, if_neg (by rintro rfl; exact hp hin)]
    · rw [if_pos (by simp only [Bool.not_eq_true', Bool.and_eq_false_iff, decide_eq_false_iff_not]; omega),
        SampleMem.read, hr, SampleMem.read]
      by_cases hq : q = p
      · subst hq; rw [if_pos rfl, if_pos rfl, if_neg hin]
      · rw [if_neg hq, if_neg hq]

/-- A clear lists nothing new. -/
theorem SampleMem.clearRange_bounded {m : SampleMem} {size : Nat} (hm : ∀ c ∈ m, c.1 < size) (lo hi : Nat) :
    ∀ c ∈ m.clearRange lo hi, c.1 < size :=
  fun c hc => hm c (List.mem_of_mem_filter hc)

/-- Canonical memories that read alike from a position on are equal: equal memories are equal data. -/
theorem SampleMem.eq_of_read {lo : Nat} {m k : SampleMem} (hm : SampleMem.wfFrom lo m = true)
    (hk : SampleMem.wfFrom lo k = true) (h : ∀ p, m.read p = k.read p) : m = k := by
  induction m generalizing lo k with
  | nil =>
    cases k with
    | nil => rfl
    | cons d ks =>
      obtain ⟨q, u⟩ := d
      rw [SampleMem.wfFrom_cons] at hk
      exact absurd (by simpa [SampleMem.read, SampleMem.unlisted] using (h q).symm) hk.2.1
  | cons c ms ih =>
    obtain ⟨p, v⟩ := c
    rw [SampleMem.wfFrom_cons] at hm
    cases k with
    | nil => exact absurd (by simpa [SampleMem.read, SampleMem.unlisted] using h p) hm.2.1
    | cons d ks =>
      obtain ⟨q, u⟩ := d
      rw [SampleMem.wfFrom_cons] at hk
      have hpq : p = q := by
        rcases Nat.lt_trichotomy p q with hlt | heq | hgt
        · refine absurd ?_ hm.2.1
          have := h p
          rwa [SampleMem.read, if_pos rfl, SampleMem.read, if_neg (by omega),
            SampleMem.read_below hk.2.2 (by omega)] at this
        · exact heq
        · refine absurd ?_ hk.2.1
          have := h q
          rw [SampleMem.read, if_neg (by omega), SampleMem.read_below hm.2.2 (by omega),
            SampleMem.read, if_pos rfl] at this
          exact this.symm
      subst hpq
      have hv : v = u := by simpa [SampleMem.read] using h p
      subst hv
      refine congrArg _ (ih hm.2.2 hk.2.2 fun r => ?_)
      rcases Nat.lt_or_ge p r with hr | hr
      · have := h r
        rwa [SampleMem.read, if_neg (by omega), SampleMem.read, if_neg (by omega)] at this
      · rw [SampleMem.read_below hm.2.2 (by omega), SampleMem.read_below hk.2.2 (by omega)]

end Sys2Proof.Machine
end

