-- ==== Sys2Proof/Laws/State.lean ====
section
/-!
SUPPORT. One lemma per field per update of the state, true by `rfl`, so that no proof unfolds a record update.
-/

namespace Sys2Proof.Machine

variable (s : State)

/-! R187: a latch set. -/

@[simp] theorem State.latch_pins (e : Event) : (s.latch e).pins = s.pins := rfl
@[simp] theorem State.latch_chain (e : Event) : (s.latch e).chain = s.chain := rfl
@[simp] theorem State.latch_level (e : Event) : (s.latch e).level = s.level := rfl
@[simp] theorem State.latch_pickups (e : Event) : (s.latch e).pickups = s.pickups := rfl
@[simp] theorem State.latch_buffer (e : Event) : (s.latch e).buffer = s.buffer := rfl
@[simp] theorem State.latch_delay (e : Event) : (s.latch e).delay = s.delay := rfl
@[simp] theorem State.latch_taps (e : Event) : (s.latch e).taps = s.taps := rfl
@[simp] theorem State.latch_cores (e : Event) : (s.latch e).cores = s.cores := rfl
@[simp] theorem State.latch_scenes (e : Event) : (s.latch e).scenes = s.scenes := rfl
@[simp] theorem State.latch_check (e : Event) : (s.latch e).check = s.check := rfl
@[simp] theorem State.latch_cue (e : Event) : (s.latch e).cue = s.cue := rfl
@[simp] theorem State.latch_guards (e : Event) : (s.latch e).guards = s.guards := rfl
@[simp] theorem State.latch_hold (e : Event) : (s.latch e).hold = s.hold := rfl
@[simp] theorem State.latch_lane (e : Event) : (s.latch e).lane = s.lane := rfl
@[simp] theorem State.latch_events (e : Event) : (s.latch e).events = s.events.set e := rfl
@[simp] theorem State.latch_pattern (e : Event) : (s.latch e).pattern = s.pattern := rfl
@[simp] theorem State.latch_pending (e : Event) : (s.latch e).pending = s.pending := rfl

/-! The level other parties give HOLD_N. -/

@[simp] theorem State.setHoldPulled_pins (b : Bool) : (s.setHoldPulled b).pins = ⟨s.pins.rstLow, b⟩ := rfl
@[simp] theorem State.setHoldPulled_chain (b : Bool) : (s.setHoldPulled b).chain = s.chain := rfl
@[simp] theorem State.setHoldPulled_level (b : Bool) : (s.setHoldPulled b).level = s.level := rfl
@[simp] theorem State.setHoldPulled_pickups (b : Bool) : (s.setHoldPulled b).pickups = s.pickups := rfl
@[simp] theorem State.setHoldPulled_buffer (b : Bool) : (s.setHoldPulled b).buffer = s.buffer := rfl
@[simp] theorem State.setHoldPulled_delay (b : Bool) : (s.setHoldPulled b).delay = s.delay := rfl
@[simp] theorem State.setHoldPulled_taps (b : Bool) : (s.setHoldPulled b).taps = s.taps := rfl
@[simp] theorem State.setHoldPulled_cores (b : Bool) : (s.setHoldPulled b).cores = s.cores := rfl
@[simp] theorem State.setHoldPulled_scenes (b : Bool) : (s.setHoldPulled b).scenes = s.scenes := rfl
@[simp] theorem State.setHoldPulled_check (b : Bool) : (s.setHoldPulled b).check = s.check := rfl
@[simp] theorem State.setHoldPulled_cue (b : Bool) : (s.setHoldPulled b).cue = s.cue := rfl
@[simp] theorem State.setHoldPulled_guards (b : Bool) : (s.setHoldPulled b).guards = s.guards := rfl
@[simp] theorem State.setHoldPulled_hold (b : Bool) : (s.setHoldPulled b).hold = s.hold := rfl
@[simp] theorem State.setHoldPulled_lane (b : Bool) : (s.setHoldPulled b).lane = s.lane := rfl
@[simp] theorem State.setHoldPulled_events (b : Bool) : (s.setHoldPulled b).events = s.events := rfl
@[simp] theorem State.setHoldPulled_pattern (b : Bool) : (s.setHoldPulled b).pattern = s.pattern := rfl
@[simp] theorem State.setHoldPulled_pending (b : Bool) : (s.setHoldPulled b).pending = s.pending := rfl

/-! R163: a reply becomes READY. -/

@[simp] theorem State.pushReply_pins (t : Ticket) (st : Status) (d : List Byte) :
    (s.pushReply t st d).pins =
      s.pins := rfl
@[simp] theorem State.pushReply_chain (t : Ticket) (st : Status) (d : List Byte) :
    (s.pushReply t st d).chain =
      s.chain := rfl
@[simp] theorem State.pushReply_level (t : Ticket) (st : Status) (d : List Byte) :
    (s.pushReply t st d).level =
      s.level := rfl
@[simp] theorem State.pushReply_pickups (t : Ticket) (st : Status) (d : List Byte) :
    (s.pushReply t st d).pickups =
      s.pickups := rfl
@[simp] theorem State.pushReply_buffer (t : Ticket) (st : Status) (d : List Byte) :
    (s.pushReply t st d).buffer =
      s.buffer := rfl
@[simp] theorem State.pushReply_delay (t : Ticket) (st : Status) (d : List Byte) :
    (s.pushReply t st d).delay =
      s.delay := rfl
@[simp] theorem State.pushReply_taps (t : Ticket) (st : Status) (d : List Byte) :
    (s.pushReply t st d).taps =
      s.taps := rfl
@[simp] theorem State.pushReply_cores (t : Ticket) (st : Status) (d : List Byte) :
    (s.pushReply t st d).cores =
      s.cores := rfl
@[simp] theorem State.pushReply_scenes (t : Ticket) (st : Status) (d : List Byte) :
    (s.pushReply t st d).scenes =
      s.scenes := rfl
@[simp] theorem State.pushReply_check (t : Ticket) (st : Status) (d : List Byte) :
    (s.pushReply t st d).check =
      s.check := rfl
@[simp] theorem State.pushReply_cue (t : Ticket) (st : Status) (d : List Byte) :
    (s.pushReply t st d).cue =
      s.cue := rfl
@[simp] theorem State.pushReply_guards (t : Ticket) (st : Status) (d : List Byte) :
    (s.pushReply t st d).guards =
      s.guards := rfl
@[simp] theorem State.pushReply_hold (t : Ticket) (st : Status) (d : List Byte) :
    (s.pushReply t st d).hold =
      s.hold := rfl
@[simp] theorem State.pushReply_lane (t : Ticket) (st : Status) (d : List Byte) :
    (s.pushReply t st d).lane =
      { s.lane with ready := s.lane.ready ++ [t.reply st d] } := rfl
@[simp] theorem State.pushReply_events (t : Ticket) (st : Status) (d : List Byte) :
    (s.pushReply t st d).events =
      s.events := rfl
@[simp] theorem State.pushReply_pattern (t : Ticket) (st : Status) (d : List Byte) :
    (s.pushReply t st d).pattern =
      s.pattern := rfl
@[simp] theorem State.pushReply_pending (t : Ticket) (st : Status) (d : List Byte) :
    (s.pushReply t st d).pending =
      s.pending := rfl

/-! R162: the oldest entry leaves the queue. -/

@[simp] theorem State.popQueue_pins (rest : List Entry) : (s.popQueue rest).pins = s.pins := rfl
@[simp] theorem State.popQueue_chain (rest : List Entry) : (s.popQueue rest).chain = s.chain := rfl
@[simp] theorem State.popQueue_level (rest : List Entry) : (s.popQueue rest).level = s.level := rfl
@[simp] theorem State.popQueue_pickups (rest : List Entry) : (s.popQueue rest).pickups = s.pickups := rfl
@[simp] theorem State.popQueue_buffer (rest : List Entry) : (s.popQueue rest).buffer = s.buffer := rfl
@[simp] theorem State.popQueue_delay (rest : List Entry) : (s.popQueue rest).delay = s.delay := rfl
@[simp] theorem State.popQueue_taps (rest : List Entry) : (s.popQueue rest).taps = s.taps := rfl
@[simp] theorem State.popQueue_cores (rest : List Entry) : (s.popQueue rest).cores = s.cores := rfl
@[simp] theorem State.popQueue_scenes (rest : List Entry) : (s.popQueue rest).scenes = s.scenes := rfl
@[simp] theorem State.popQueue_check (rest : List Entry) : (s.popQueue rest).check = s.check := rfl
@[simp] theorem State.popQueue_cue (rest : List Entry) : (s.popQueue rest).cue = s.cue := rfl
@[simp] theorem State.popQueue_guards (rest : List Entry) : (s.popQueue rest).guards = s.guards := rfl
@[simp] theorem State.popQueue_hold (rest : List Entry) : (s.popQueue rest).hold = s.hold := rfl
@[simp] theorem State.popQueue_lane (rest : List Entry) :
    (s.popQueue rest).lane =
      { s.lane with queue := rest, backpressure := pressureTaken rest.length s.lane.backpressure } := rfl
@[simp] theorem State.popQueue_events (rest : List Entry) : (s.popQueue rest).events = s.events := rfl
@[simp] theorem State.popQueue_pattern (rest : List Entry) : (s.popQueue rest).pattern = s.pattern := rfl
@[simp] theorem State.popQueue_pending (rest : List Entry) : (s.popQueue rest).pending = s.pending := rfl

/-! A scene's state set. -/

@[simp] theorem State.setSceneState_pins (i : Fin 16) (st : SceneState) :
    (s.setSceneState i st).pins =
      s.pins := rfl
@[simp] theorem State.setSceneState_chain (i : Fin 16) (st : SceneState) :
    (s.setSceneState i st).chain =
      s.chain := rfl
@[simp] theorem State.setSceneState_level (i : Fin 16) (st : SceneState) :
    (s.setSceneState i st).level =
      s.level := rfl
@[simp] theorem State.setSceneState_pickups (i : Fin 16) (st : SceneState) :
    (s.setSceneState i st).pickups =
      s.pickups := rfl
@[simp] theorem State.setSceneState_buffer (i : Fin 16) (st : SceneState) :
    (s.setSceneState i st).buffer =
      s.buffer := rfl
@[simp] theorem State.setSceneState_delay (i : Fin 16) (st : SceneState) :
    (s.setSceneState i st).delay =
      s.delay := rfl
@[simp] theorem State.setSceneState_taps (i : Fin 16) (st : SceneState) :
    (s.setSceneState i st).taps =
      s.taps := rfl
@[simp] theorem State.setSceneState_cores (i : Fin 16) (st : SceneState) :
    (s.setSceneState i st).cores =
      s.cores := rfl
@[simp] theorem State.setSceneState_scenes (i : Fin 16) (st : SceneState) :
    (s.setSceneState i st).scenes =
      s.scenes.modify i fun sc => { sc with state := st } := rfl
@[simp] theorem State.setSceneState_check (i : Fin 16) (st : SceneState) :
    (s.setSceneState i st).check =
      s.check := rfl
@[simp] theorem State.setSceneState_cue (i : Fin 16) (st : SceneState) :
    (s.setSceneState i st).cue =
      s.cue := rfl
@[simp] theorem State.setSceneState_guards (i : Fin 16) (st : SceneState) :
    (s.setSceneState i st).guards =
      s.guards := rfl
@[simp] theorem State.setSceneState_hold (i : Fin 16) (st : SceneState) :
    (s.setSceneState i st).hold =
      s.hold := rfl
@[simp] theorem State.setSceneState_lane (i : Fin 16) (st : SceneState) :
    (s.setSceneState i st).lane =
      s.lane := rfl
@[simp] theorem State.setSceneState_events (i : Fin 16) (st : SceneState) :
    (s.setSceneState i st).events =
      s.events := rfl
@[simp] theorem State.setSceneState_pattern (i : Fin 16) (st : SceneState) :
    (s.setSceneState i st).pattern =
      s.pattern := rfl
@[simp] theorem State.setSceneState_pending (i : Fin 16) (st : SceneState) :
    (s.setSceneState i st).pending =
      s.pending := rfl

/-! R158: a context set. -/

@[simp] theorem State.setContext_pins (i : Fin 16) (a : Option Assembly) :
    (s.setContext i a).pins =
      s.pins := rfl
@[simp] theorem State.setContext_chain (i : Fin 16) (a : Option Assembly) :
    (s.setContext i a).chain =
      s.chain := rfl
@[simp] theorem State.setContext_level (i : Fin 16) (a : Option Assembly) :
    (s.setContext i a).level =
      s.level := rfl
@[simp] theorem State.setContext_pickups (i : Fin 16) (a : Option Assembly) :
    (s.setContext i a).pickups =
      s.pickups := rfl
@[simp] theorem State.setContext_buffer (i : Fin 16) (a : Option Assembly) :
    (s.setContext i a).buffer =
      s.buffer := rfl
@[simp] theorem State.setContext_delay (i : Fin 16) (a : Option Assembly) :
    (s.setContext i a).delay =
      s.delay := rfl
@[simp] theorem State.setContext_taps (i : Fin 16) (a : Option Assembly) :
    (s.setContext i a).taps =
      s.taps := rfl
@[simp] theorem State.setContext_cores (i : Fin 16) (a : Option Assembly) :
    (s.setContext i a).cores =
      s.cores := rfl
@[simp] theorem State.setContext_scenes (i : Fin 16) (a : Option Assembly) :
    (s.setContext i a).scenes =
      s.scenes := rfl
@[simp] theorem State.setContext_check (i : Fin 16) (a : Option Assembly) :
    (s.setContext i a).check =
      s.check := rfl
@[simp] theorem State.setContext_cue (i : Fin 16) (a : Option Assembly) :
    (s.setContext i a).cue =
      s.cue := rfl
@[simp] theorem State.setContext_guards (i : Fin 16) (a : Option Assembly) :
    (s.setContext i a).guards =
      s.guards := rfl
@[simp] theorem State.setContext_hold (i : Fin 16) (a : Option Assembly) :
    (s.setContext i a).hold =
      s.hold := rfl
@[simp] theorem State.setContext_lane (i : Fin 16) (a : Option Assembly) :
    (s.setContext i a).lane =
      { s.lane with contexts := s.lane.contexts.set i a } := rfl
@[simp] theorem State.setContext_events (i : Fin 16) (a : Option Assembly) :
    (s.setContext i a).events =
      s.events := rfl
@[simp] theorem State.setContext_pattern (i : Fin 16) (a : Option Assembly) :
    (s.setContext i a).pattern =
      s.pattern := rfl
@[simp] theorem State.setContext_pending (i : Fin 16) (a : Option Assembly) :
    (s.setContext i a).pending =
      s.pending := rfl

/-! R156: a read record entry set. -/

@[simp] theorem State.setRecord_pins (f : FrameNo) (r : Bool) : (s.setRecord f r).pins = s.pins := rfl
@[simp] theorem State.setRecord_chain (f : FrameNo) (r : Bool) : (s.setRecord f r).chain = s.chain := rfl
@[simp] theorem State.setRecord_level (f : FrameNo) (r : Bool) : (s.setRecord f r).level = s.level := rfl
@[simp] theorem State.setRecord_pickups (f : FrameNo) (r : Bool) :
    (s.setRecord f r).pickups =
      s.pickups := rfl
@[simp] theorem State.setRecord_buffer (f : FrameNo) (r : Bool) : (s.setRecord f r).buffer = s.buffer := rfl
@[simp] theorem State.setRecord_delay (f : FrameNo) (r : Bool) : (s.setRecord f r).delay = s.delay := rfl
@[simp] theorem State.setRecord_taps (f : FrameNo) (r : Bool) : (s.setRecord f r).taps = s.taps := rfl
@[simp] theorem State.setRecord_cores (f : FrameNo) (r : Bool) : (s.setRecord f r).cores = s.cores := rfl
@[simp] theorem State.setRecord_scenes (f : FrameNo) (r : Bool) : (s.setRecord f r).scenes = s.scenes := rfl
@[simp] theorem State.setRecord_check (f : FrameNo) (r : Bool) : (s.setRecord f r).check = s.check := rfl
@[simp] theorem State.setRecord_cue (f : FrameNo) (r : Bool) : (s.setRecord f r).cue = s.cue := rfl
@[simp] theorem State.setRecord_guards (f : FrameNo) (r : Bool) : (s.setRecord f r).guards = s.guards := rfl
@[simp] theorem State.setRecord_hold (f : FrameNo) (r : Bool) : (s.setRecord f r).hold = s.hold := rfl
@[simp] theorem State.setRecord_lane (f : FrameNo) (r : Bool) :
    (s.setRecord f r).lane =
      { s.lane with record := s.lane.record.set (turnOf f) (some ⟨f, r⟩) } := rfl
@[simp] theorem State.setRecord_events (f : FrameNo) (r : Bool) : (s.setRecord f r).events = s.events := rfl
@[simp] theorem State.setRecord_pattern (f : FrameNo) (r : Bool) :
    (s.setRecord f r).pattern =
      s.pattern := rfl
@[simp] theorem State.setRecord_pending (f : FrameNo) (r : Bool) :
    (s.setRecord f r).pending =
      s.pending := rfl

/-! R159: a message broken. -/

@[simp] theorem State.breakMessage_pins (i : Fin 16) : (s.breakMessage i).pins = s.pins := rfl
@[simp] theorem State.breakMessage_chain (i : Fin 16) : (s.breakMessage i).chain = s.chain := rfl
@[simp] theorem State.breakMessage_level (i : Fin 16) : (s.breakMessage i).level = s.level := rfl
@[simp] theorem State.breakMessage_pickups (i : Fin 16) : (s.breakMessage i).pickups = s.pickups := rfl
@[simp] theorem State.breakMessage_buffer (i : Fin 16) : (s.breakMessage i).buffer = s.buffer := rfl
@[simp] theorem State.breakMessage_delay (i : Fin 16) : (s.breakMessage i).delay = s.delay := rfl
@[simp] theorem State.breakMessage_taps (i : Fin 16) : (s.breakMessage i).taps = s.taps := rfl
@[simp] theorem State.breakMessage_cores (i : Fin 16) : (s.breakMessage i).cores = s.cores := rfl
@[simp] theorem State.breakMessage_scenes (i : Fin 16) : (s.breakMessage i).scenes = s.scenes := rfl
@[simp] theorem State.breakMessage_check (i : Fin 16) : (s.breakMessage i).check = s.check := rfl
@[simp] theorem State.breakMessage_cue (i : Fin 16) : (s.breakMessage i).cue = s.cue := rfl
@[simp] theorem State.breakMessage_guards (i : Fin 16) : (s.breakMessage i).guards = s.guards := rfl
@[simp] theorem State.breakMessage_hold (i : Fin 16) : (s.breakMessage i).hold = s.hold := rfl
@[simp] theorem State.breakMessage_lane (i : Fin 16) :
    (s.breakMessage i).lane =
      { s.lane with contexts := s.lane.contexts.set i none } := rfl
@[simp] theorem State.breakMessage_pattern (i : Fin 16) : (s.breakMessage i).pattern = s.pattern := rfl
@[simp] theorem State.breakMessage_pending (i : Fin 16) : (s.breakMessage i).pending = s.pending := rfl

/-! R163: the oldest READY entry becomes FREE. -/

@[simp] theorem State.dropReply_pins : s.dropReply.pins = s.pins := rfl
@[simp] theorem State.dropReply_chain : s.dropReply.chain = s.chain := rfl
@[simp] theorem State.dropReply_level : s.dropReply.level = s.level := rfl
@[simp] theorem State.dropReply_pickups : s.dropReply.pickups = s.pickups := rfl
@[simp] theorem State.dropReply_buffer : s.dropReply.buffer = s.buffer := rfl
@[simp] theorem State.dropReply_delay : s.dropReply.delay = s.delay := rfl
@[simp] theorem State.dropReply_taps : s.dropReply.taps = s.taps := rfl
@[simp] theorem State.dropReply_cores : s.dropReply.cores = s.cores := rfl
@[simp] theorem State.dropReply_scenes : s.dropReply.scenes = s.scenes := rfl
@[simp] theorem State.dropReply_check : s.dropReply.check = s.check := rfl
@[simp] theorem State.dropReply_cue : s.dropReply.cue = s.cue := rfl
@[simp] theorem State.dropReply_guards : s.dropReply.guards = s.guards := rfl
@[simp] theorem State.dropReply_hold : s.dropReply.hold = s.hold := rfl
@[simp] theorem State.dropReply_lane :
    s.dropReply.lane =
      { s.lane with ready := s.lane.ready.drop 1, sent := 0 } := rfl
@[simp] theorem State.dropReply_events : s.dropReply.events = s.events := rfl
@[simp] theorem State.dropReply_pattern : s.dropReply.pattern = s.pattern := rfl
@[simp] theorem State.dropReply_pending : s.dropReply.pending = s.pending := rfl

/-! R54, R74, R94: the signal memories cleared. -/

@[simp] theorem State.clearMemories_pins : s.clearMemories.pins = s.pins := rfl
@[simp] theorem State.clearMemories_chain : s.clearMemories.chain = s.chain := rfl
@[simp] theorem State.clearMemories_level : s.clearMemories.level = s.level := rfl
@[simp] theorem State.clearMemories_pickups : s.clearMemories.pickups = s.pickups.map Pickup.silence := rfl
@[simp] theorem State.clearMemories_buffer : s.clearMemories.buffer = Bank.fill 16 BufferEntry.cleared := rfl
@[simp] theorem State.clearMemories_delay : s.clearMemories.delay = Bank.fill 48 [] := rfl
@[simp] theorem State.clearMemories_taps :
    s.clearMemories.taps =
      { s.taps with peaks := Bank.fill 32 0 } := rfl
@[simp] theorem State.clearMemories_cores : s.clearMemories.cores = s.cores.map RevCore.silence := rfl
@[simp] theorem State.clearMemories_scenes : s.clearMemories.scenes = s.scenes := rfl
@[simp] theorem State.clearMemories_check : s.clearMemories.check = s.check := rfl
@[simp] theorem State.clearMemories_cue : s.clearMemories.cue = s.cue := rfl
@[simp] theorem State.clearMemories_guards : s.clearMemories.guards = s.guards := rfl
@[simp] theorem State.clearMemories_hold : s.clearMemories.hold = s.hold := rfl
@[simp] theorem State.clearMemories_lane : s.clearMemories.lane = s.lane := rfl
@[simp] theorem State.clearMemories_events : s.clearMemories.events = s.events := rfl
@[simp] theorem State.clearMemories_pattern : s.clearMemories.pattern = s.pattern := rfl
@[simp] theorem State.clearMemories_pending : s.clearMemories.pending = s.pending := rfl

/-! R146: HOLD_N sampled. -/

@[simp] theorem State.sampleHold_pins : s.sampleHold.pins = s.pins := rfl
@[simp] theorem State.sampleHold_chain : s.sampleHold.chain = s.chain := rfl
@[simp] theorem State.sampleHold_level : s.sampleHold.level = s.level := rfl
@[simp] theorem State.sampleHold_pickups : s.sampleHold.pickups = s.pickups := rfl
@[simp] theorem State.sampleHold_buffer : s.sampleHold.buffer = s.buffer := rfl
@[simp] theorem State.sampleHold_delay : s.sampleHold.delay = s.delay := rfl
@[simp] theorem State.sampleHold_taps : s.sampleHold.taps = s.taps := rfl
@[simp] theorem State.sampleHold_cores : s.sampleHold.cores = s.cores := rfl
@[simp] theorem State.sampleHold_scenes : s.sampleHold.scenes = s.scenes := rfl
@[simp] theorem State.sampleHold_check : s.sampleHold.check = s.check := rfl
@[simp] theorem State.sampleHold_cue : s.sampleHold.cue = s.cue := rfl
@[simp] theorem State.sampleHold_guards : s.sampleHold.guards = s.guards := rfl
@[simp] theorem State.sampleHold_hold : s.sampleHold.hold = { s.hold with line := s.holdNLow } := rfl
@[simp] theorem State.sampleHold_lane : s.sampleHold.lane = s.lane := rfl
@[simp] theorem State.sampleHold_events : s.sampleHold.events = s.events := rfl
@[simp] theorem State.sampleHold_pattern : s.sampleHold.pattern = s.pattern := rfl
@[simp] theorem State.sampleHold_pending : s.sampleHold.pending = s.pending := rfl

/-! R23: the Level Unit at a tick. -/

@[simp] theorem State.tickLevel_pins : s.tickLevel.pins = s.pins := rfl
@[simp] theorem State.tickLevel_chain : s.tickLevel.chain = s.chain := rfl
@[simp] theorem State.tickLevel_level : s.tickLevel.level = s.level.tick s.hold.any := rfl
@[simp] theorem State.tickLevel_pickups : s.tickLevel.pickups = s.pickups := rfl
@[simp] theorem State.tickLevel_buffer : s.tickLevel.buffer = s.buffer := rfl
@[simp] theorem State.tickLevel_delay : s.tickLevel.delay = s.delay := rfl
@[simp] theorem State.tickLevel_taps : s.tickLevel.taps = s.taps := rfl
@[simp] theorem State.tickLevel_cores : s.tickLevel.cores = s.cores := rfl
@[simp] theorem State.tickLevel_scenes : s.tickLevel.scenes = s.scenes := rfl
@[simp] theorem State.tickLevel_check : s.tickLevel.check = s.check := rfl
@[simp] theorem State.tickLevel_cue : s.tickLevel.cue = s.cue := rfl
@[simp] theorem State.tickLevel_guards : s.tickLevel.guards = s.guards := rfl
@[simp] theorem State.tickLevel_hold : s.tickLevel.hold = s.hold := rfl
@[simp] theorem State.tickLevel_lane : s.tickLevel.lane = s.lane := rfl
@[simp] theorem State.tickLevel_events : s.tickLevel.events = s.events := rfl
@[simp] theorem State.tickLevel_pattern : s.tickLevel.pattern = s.pattern := rfl
@[simp] theorem State.tickLevel_pending : s.tickLevel.pending = s.pending := rfl

/-! R46: the gates at a tick. -/

@[simp] theorem State.tickGates_pins : s.tickGates.pins = s.pins := rfl
@[simp] theorem State.tickGates_chain : s.tickGates.chain = s.chain := rfl
@[simp] theorem State.tickGates_level : s.tickGates.level = s.level := rfl
@[simp] theorem State.tickGates_pickups : s.tickGates.pickups = s.pickups.map Pickup.tick := rfl
@[simp] theorem State.tickGates_buffer : s.tickGates.buffer = s.buffer := rfl
@[simp] theorem State.tickGates_delay : s.tickGates.delay = s.delay := rfl
@[simp] theorem State.tickGates_taps : s.tickGates.taps = s.taps := rfl
@[simp] theorem State.tickGates_cores : s.tickGates.cores = s.cores := rfl
@[simp] theorem State.tickGates_scenes : s.tickGates.scenes = s.scenes := rfl
@[simp] theorem State.tickGates_check : s.tickGates.check = s.check := rfl
@[simp] theorem State.tickGates_cue : s.tickGates.cue = s.cue := rfl
@[simp] theorem State.tickGates_guards : s.tickGates.guards = s.guards := rfl
@[simp] theorem State.tickGates_hold : s.tickGates.hold = s.hold := rfl
@[simp] theorem State.tickGates_lane : s.tickGates.lane = s.lane := rfl
@[simp] theorem State.tickGates_events : s.tickGates.events = s.events := rfl
@[simp] theorem State.tickGates_pattern : s.tickGates.pattern = s.pattern := rfl
@[simp] theorem State.tickGates_pending : s.tickGates.pending = s.pending := rfl

/-! R62: the wander counts at a tick. -/

@[simp] theorem State.tickWander_pins (b : Bool) : (s.tickWander b).pins = s.pins := rfl
@[simp] theorem State.tickWander_chain (b : Bool) : (s.tickWander b).chain = s.chain := rfl
@[simp] theorem State.tickWander_level (b : Bool) : (s.tickWander b).level = s.level := rfl
@[simp] theorem State.tickWander_pickups (b : Bool) : (s.tickWander b).pickups = s.pickups := rfl
@[simp] theorem State.tickWander_buffer (b : Bool) : (s.tickWander b).buffer = s.buffer := rfl
@[simp] theorem State.tickWander_delay (b : Bool) : (s.tickWander b).delay = s.delay := rfl
@[simp] theorem State.tickWander_taps (b : Bool) : (s.tickWander b).taps = s.taps := rfl
@[simp] theorem State.tickWander_cores (b : Bool) : (s.tickWander b).cores = s.cores := rfl
@[simp] theorem State.tickWander_scenes (b : Bool) : (s.tickWander b).scenes = s.scenes := rfl
@[simp] theorem State.tickWander_check (b : Bool) : (s.tickWander b).check = s.check := rfl
@[simp] theorem State.tickWander_guards (b : Bool) : (s.tickWander b).guards = s.guards := rfl
@[simp] theorem State.tickWander_hold (b : Bool) : (s.tickWander b).hold = s.hold := rfl
@[simp] theorem State.tickWander_lane (b : Bool) : (s.tickWander b).lane = s.lane := rfl
@[simp] theorem State.tickWander_events (b : Bool) : (s.tickWander b).events = s.events := rfl
@[simp] theorem State.tickWander_pattern (b : Bool) : (s.tickWander b).pattern = s.pattern := rfl
@[simp] theorem State.tickWander_pending (b : Bool) : (s.tickWander b).pending = s.pending := rfl

/-! R60: the effective gains at a tick. -/

@[simp] theorem State.tickGains_pins : s.tickGains.pins = s.pins := rfl
@[simp] theorem State.tickGains_chain : s.tickGains.chain = s.chain := rfl
@[simp] theorem State.tickGains_level : s.tickGains.level = s.level := rfl
@[simp] theorem State.tickGains_pickups : s.tickGains.pickups = s.pickups := rfl
@[simp] theorem State.tickGains_buffer : s.tickGains.buffer = s.buffer := rfl
@[simp] theorem State.tickGains_delay : s.tickGains.delay = s.delay := rfl
@[simp] theorem State.tickGains_cores : s.tickGains.cores = s.cores := rfl
@[simp] theorem State.tickGains_scenes : s.tickGains.scenes = s.scenes := rfl
@[simp] theorem State.tickGains_check : s.tickGains.check = s.check := rfl
@[simp] theorem State.tickGains_cue : s.tickGains.cue = s.cue := rfl
@[simp] theorem State.tickGains_guards : s.tickGains.guards = s.guards := rfl
@[simp] theorem State.tickGains_hold : s.tickGains.hold = s.hold := rfl
@[simp] theorem State.tickGains_lane : s.tickGains.lane = s.lane := rfl
@[simp] theorem State.tickGains_events : s.tickGains.events = s.events := rfl
@[simp] theorem State.tickGains_pattern : s.tickGains.pattern = s.pattern := rfl
@[simp] theorem State.tickGains_pending : s.tickGains.pending = s.pending := rfl

/-! R125: a crossfade ends. -/

@[simp] theorem State.endFade_pins : s.endFade.pins = s.pins := rfl
@[simp] theorem State.endFade_chain : s.endFade.chain = s.chain := rfl
@[simp] theorem State.endFade_level : s.endFade.level = s.level := rfl
@[simp] theorem State.endFade_pickups : s.endFade.pickups = s.pickups := rfl
@[simp] theorem State.endFade_buffer : s.endFade.buffer = s.buffer := rfl
@[simp] theorem State.endFade_delay : s.endFade.delay = s.delay := rfl
@[simp] theorem State.endFade_taps : s.endFade.taps = { s.taps with gainOutgoing := none } := rfl
@[simp] theorem State.endFade_cores : s.endFade.cores = s.cores.map RevCore.endFade := rfl
@[simp] theorem State.endFade_scenes : s.endFade.scenes = endFadeScenes s.cue.target s.scenes := rfl
@[simp] theorem State.endFade_check : s.endFade.check = s.check := rfl
@[simp] theorem State.endFade_cue : s.endFade.cue = s.cue.endFade := rfl
@[simp] theorem State.endFade_guards : s.endFade.guards = s.guards := rfl
@[simp] theorem State.endFade_hold : s.endFade.hold = s.hold := rfl
@[simp] theorem State.endFade_lane : s.endFade.lane = s.lane := rfl
@[simp] theorem State.endFade_events : s.endFade.events = s.events := rfl
@[simp] theorem State.endFade_pattern : s.endFade.pattern = s.pattern := rfl
@[simp] theorem State.endFade_pending : s.endFade.pending = s.pending := rfl

/-! R73: the running feed peaks. -/

@[simp] theorem State.recordPeaks_pins (o : Bank 32 Sample) : (s.recordPeaks o).pins = s.pins := rfl
@[simp] theorem State.recordPeaks_chain (o : Bank 32 Sample) : (s.recordPeaks o).chain = s.chain := rfl
@[simp] theorem State.recordPeaks_level (o : Bank 32 Sample) : (s.recordPeaks o).level = s.level := rfl
@[simp] theorem State.recordPeaks_pickups (o : Bank 32 Sample) : (s.recordPeaks o).pickups = s.pickups := rfl
@[simp] theorem State.recordPeaks_buffer (o : Bank 32 Sample) : (s.recordPeaks o).buffer = s.buffer := rfl
@[simp] theorem State.recordPeaks_delay (o : Bank 32 Sample) : (s.recordPeaks o).delay = s.delay := rfl
@[simp] theorem State.recordPeaks_cores (o : Bank 32 Sample) : (s.recordPeaks o).cores = s.cores := rfl
@[simp] theorem State.recordPeaks_scenes (o : Bank 32 Sample) : (s.recordPeaks o).scenes = s.scenes := rfl
@[simp] theorem State.recordPeaks_check (o : Bank 32 Sample) : (s.recordPeaks o).check = s.check := rfl
@[simp] theorem State.recordPeaks_cue (o : Bank 32 Sample) : (s.recordPeaks o).cue = s.cue := rfl
@[simp] theorem State.recordPeaks_guards (o : Bank 32 Sample) : (s.recordPeaks o).guards = s.guards := rfl
@[simp] theorem State.recordPeaks_hold (o : Bank 32 Sample) : (s.recordPeaks o).hold = s.hold := rfl
@[simp] theorem State.recordPeaks_lane (o : Bank 32 Sample) : (s.recordPeaks o).lane = s.lane := rfl
@[simp] theorem State.recordPeaks_events (o : Bank 32 Sample) : (s.recordPeaks o).events = s.events := rfl
@[simp] theorem State.recordPeaks_pattern (o : Bank 32 Sample) : (s.recordPeaks o).pattern = s.pattern := rfl
@[simp] theorem State.recordPeaks_pending (o : Bank 32 Sample) : (s.recordPeaks o).pending = s.pending := rfl

/-! R7: a bad frame at Port U. -/

@[simp] theorem State.countBadU_pins : s.countBadU.pins = s.pins := rfl
@[simp] theorem State.countBadU_chain : s.countBadU.chain = s.chain := rfl
@[simp] theorem State.countBadU_level : s.countBadU.level = s.level := rfl
@[simp] theorem State.countBadU_pickups : s.countBadU.pickups = s.pickups := rfl
@[simp] theorem State.countBadU_buffer : s.countBadU.buffer = s.buffer := rfl
@[simp] theorem State.countBadU_delay : s.countBadU.delay = s.delay := rfl
@[simp] theorem State.countBadU_taps : s.countBadU.taps = s.taps := rfl
@[simp] theorem State.countBadU_cores : s.countBadU.cores = s.cores := rfl
@[simp] theorem State.countBadU_scenes : s.countBadU.scenes = s.scenes := rfl
@[simp] theorem State.countBadU_check : s.countBadU.check = s.check := rfl
@[simp] theorem State.countBadU_cue : s.countBadU.cue = s.cue := rfl
@[simp] theorem State.countBadU_guards : s.countBadU.guards = s.guards := rfl
@[simp] theorem State.countBadU_hold : s.countBadU.hold = s.hold := rfl
@[simp] theorem State.countBadU_lane : s.countBadU.lane = s.lane := rfl
@[simp] theorem State.countBadU_pattern : s.countBadU.pattern = s.pattern := rfl
@[simp] theorem State.countBadU_pending : s.countBadU.pending = s.pending := rfl

/-! R7: a bad frame at Port D. -/

@[simp] theorem State.countBadD_pins : s.countBadD.pins = s.pins := rfl
@[simp] theorem State.countBadD_chain : s.countBadD.chain = s.chain := rfl
@[simp] theorem State.countBadD_level : s.countBadD.level = s.level := rfl
@[simp] theorem State.countBadD_pickups : s.countBadD.pickups = s.pickups := rfl
@[simp] theorem State.countBadD_buffer : s.countBadD.buffer = s.buffer := rfl
@[simp] theorem State.countBadD_delay : s.countBadD.delay = s.delay := rfl
@[simp] theorem State.countBadD_taps : s.countBadD.taps = s.taps := rfl
@[simp] theorem State.countBadD_cores : s.countBadD.cores = s.cores := rfl
@[simp] theorem State.countBadD_scenes : s.countBadD.scenes = s.scenes := rfl
@[simp] theorem State.countBadD_check : s.countBadD.check = s.check := rfl
@[simp] theorem State.countBadD_cue : s.countBadD.cue = s.cue := rfl
@[simp] theorem State.countBadD_guards : s.countBadD.guards = s.guards := rfl
@[simp] theorem State.countBadD_hold : s.countBadD.hold = s.hold := rfl
@[simp] theorem State.countBadD_lane : s.countBadD.lane = s.lane := rfl
@[simp] theorem State.countBadD_pattern : s.countBadD.pattern = s.pattern := rfl
@[simp] theorem State.countBadD_pending : s.countBadD.pending = s.pending := rfl

/-! R17: Port U returns to LOCKED. -/

@[simp] theorem State.lockU_pins (p : PortRx) : (s.lockU p).pins = s.pins := rfl
@[simp] theorem State.lockU_level (p : PortRx) : (s.lockU p).level = s.level := rfl
@[simp] theorem State.lockU_pickups (p : PortRx) : (s.lockU p).pickups = s.pickups := rfl
@[simp] theorem State.lockU_buffer (p : PortRx) : (s.lockU p).buffer = s.buffer := rfl
@[simp] theorem State.lockU_delay (p : PortRx) : (s.lockU p).delay = s.delay := rfl
@[simp] theorem State.lockU_taps (p : PortRx) : (s.lockU p).taps = s.taps := rfl
@[simp] theorem State.lockU_cores (p : PortRx) : (s.lockU p).cores = s.cores := rfl
@[simp] theorem State.lockU_scenes (p : PortRx) : (s.lockU p).scenes = s.scenes := rfl
@[simp] theorem State.lockU_check (p : PortRx) : (s.lockU p).check = s.check := rfl
@[simp] theorem State.lockU_cue (p : PortRx) : (s.lockU p).cue = s.cue := rfl
@[simp] theorem State.lockU_guards (p : PortRx) : (s.lockU p).guards = s.guards := rfl
@[simp] theorem State.lockU_lane (p : PortRx) : (s.lockU p).lane = s.lane := rfl
@[simp] theorem State.lockU_events (p : PortRx) : (s.lockU p).events = s.events := rfl
@[simp] theorem State.lockU_pattern (p : PortRx) : (s.lockU p).pattern = s.pattern := rfl
@[simp] theorem State.lockU_pending (p : PortRx) : (s.lockU p).pending = s.pending := rfl

/-! R41: a buffer entry filled. -/

@[simp] theorem State.fillBuffer_pins (f : Frame) : (s.fillBuffer f).pins = s.pins := rfl
@[simp] theorem State.fillBuffer_chain (f : Frame) : (s.fillBuffer f).chain = s.chain := rfl
@[simp] theorem State.fillBuffer_level (f : Frame) : (s.fillBuffer f).level = s.level := rfl
@[simp] theorem State.fillBuffer_pickups (f : Frame) : (s.fillBuffer f).pickups = s.pickups := rfl
@[simp] theorem State.fillBuffer_delay (f : Frame) : (s.fillBuffer f).delay = s.delay := rfl
@[simp] theorem State.fillBuffer_taps (f : Frame) : (s.fillBuffer f).taps = s.taps := rfl
@[simp] theorem State.fillBuffer_cores (f : Frame) : (s.fillBuffer f).cores = s.cores := rfl
@[simp] theorem State.fillBuffer_scenes (f : Frame) : (s.fillBuffer f).scenes = s.scenes := rfl
@[simp] theorem State.fillBuffer_check (f : Frame) : (s.fillBuffer f).check = s.check := rfl
@[simp] theorem State.fillBuffer_cue (f : Frame) : (s.fillBuffer f).cue = s.cue := rfl
@[simp] theorem State.fillBuffer_guards (f : Frame) : (s.fillBuffer f).guards = s.guards := rfl
@[simp] theorem State.fillBuffer_hold (f : Frame) : (s.fillBuffer f).hold = s.hold := rfl
@[simp] theorem State.fillBuffer_lane (f : Frame) : (s.fillBuffer f).lane = s.lane := rfl
@[simp] theorem State.fillBuffer_events (f : Frame) : (s.fillBuffer f).events = s.events := rfl
@[simp] theorem State.fillBuffer_pattern (f : Frame) : (s.fillBuffer f).pattern = s.pattern := rfl
@[simp] theorem State.fillBuffer_pending (f : Frame) : (s.fillBuffer f).pending = s.pending := rfl

/-! R190: the generator forms its word. -/

@[simp] theorem State.generate_pins : s.generate.pins = s.pins := rfl
@[simp] theorem State.generate_chain : s.generate.chain = s.chain := rfl
@[simp] theorem State.generate_level : s.generate.level = s.level := rfl
@[simp] theorem State.generate_pickups : s.generate.pickups = s.pickups := rfl
@[simp] theorem State.generate_buffer : s.generate.buffer = s.buffer := rfl
@[simp] theorem State.generate_delay : s.generate.delay = s.delay := rfl
@[simp] theorem State.generate_taps : s.generate.taps = s.taps := rfl
@[simp] theorem State.generate_cores : s.generate.cores = s.cores := rfl
@[simp] theorem State.generate_scenes : s.generate.scenes = s.scenes := rfl
@[simp] theorem State.generate_check : s.generate.check = s.check := rfl
@[simp] theorem State.generate_cue : s.generate.cue = s.cue := rfl
@[simp] theorem State.generate_guards : s.generate.guards = s.guards := rfl
@[simp] theorem State.generate_hold : s.generate.hold = s.hold := rfl
@[simp] theorem State.generate_lane : s.generate.lane = s.lane := rfl
@[simp] theorem State.generate_events : s.generate.events = s.events := rfl
@[simp] theorem State.generate_pattern : s.generate.pattern = s.pattern.generate := rfl
@[simp] theorem State.generate_pending : s.generate.pending = s.pending := rfl

/-! What Port D sends. -/

@[simp] theorem State.sendD_pins (o : Option (List Byte)) : (s.sendD o).pins = s.pins := rfl
@[simp] theorem State.sendD_chain (o : Option (List Byte)) :
    (s.sendD o).chain =
      { s.chain with txD := o } := rfl
@[simp] theorem State.sendD_level (o : Option (List Byte)) : (s.sendD o).level = s.level := rfl
@[simp] theorem State.sendD_pickups (o : Option (List Byte)) : (s.sendD o).pickups = s.pickups := rfl
@[simp] theorem State.sendD_buffer (o : Option (List Byte)) : (s.sendD o).buffer = s.buffer := rfl
@[simp] theorem State.sendD_delay (o : Option (List Byte)) : (s.sendD o).delay = s.delay := rfl
@[simp] theorem State.sendD_taps (o : Option (List Byte)) : (s.sendD o).taps = s.taps := rfl
@[simp] theorem State.sendD_cores (o : Option (List Byte)) : (s.sendD o).cores = s.cores := rfl
@[simp] theorem State.sendD_scenes (o : Option (List Byte)) : (s.sendD o).scenes = s.scenes := rfl
@[simp] theorem State.sendD_check (o : Option (List Byte)) : (s.sendD o).check = s.check := rfl
@[simp] theorem State.sendD_cue (o : Option (List Byte)) : (s.sendD o).cue = s.cue := rfl
@[simp] theorem State.sendD_guards (o : Option (List Byte)) : (s.sendD o).guards = s.guards := rfl
@[simp] theorem State.sendD_hold (o : Option (List Byte)) : (s.sendD o).hold = s.hold := rfl
@[simp] theorem State.sendD_lane (o : Option (List Byte)) : (s.sendD o).lane = s.lane := rfl
@[simp] theorem State.sendD_events (o : Option (List Byte)) : (s.sendD o).events = s.events := rfl
@[simp] theorem State.sendD_pattern (o : Option (List Byte)) : (s.sendD o).pattern = s.pattern := rfl
@[simp] theorem State.sendD_pending (o : Option (List Byte)) : (s.sendD o).pending = s.pending := rfl

/-! What Port U sends. -/

@[simp] theorem State.sendU_pins (o : Option (List Byte)) : (s.sendU o).pins = s.pins := rfl
@[simp] theorem State.sendU_chain (o : Option (List Byte)) :
    (s.sendU o).chain =
      { s.chain with txU := if s.chain.leader then none else o } := rfl
@[simp] theorem State.sendU_level (o : Option (List Byte)) : (s.sendU o).level = s.level := rfl
@[simp] theorem State.sendU_pickups (o : Option (List Byte)) : (s.sendU o).pickups = s.pickups := rfl
@[simp] theorem State.sendU_buffer (o : Option (List Byte)) : (s.sendU o).buffer = s.buffer := rfl
@[simp] theorem State.sendU_delay (o : Option (List Byte)) : (s.sendU o).delay = s.delay := rfl
@[simp] theorem State.sendU_taps (o : Option (List Byte)) : (s.sendU o).taps = s.taps := rfl
@[simp] theorem State.sendU_cores (o : Option (List Byte)) : (s.sendU o).cores = s.cores := rfl
@[simp] theorem State.sendU_scenes (o : Option (List Byte)) : (s.sendU o).scenes = s.scenes := rfl
@[simp] theorem State.sendU_check (o : Option (List Byte)) : (s.sendU o).check = s.check := rfl
@[simp] theorem State.sendU_cue (o : Option (List Byte)) : (s.sendU o).cue = s.cue := rfl
@[simp] theorem State.sendU_guards (o : Option (List Byte)) : (s.sendU o).guards = s.guards := rfl
@[simp] theorem State.sendU_hold (o : Option (List Byte)) : (s.sendU o).hold = s.hold := rfl
@[simp] theorem State.sendU_lane (o : Option (List Byte)) : (s.sendU o).lane = s.lane := rfl
@[simp] theorem State.sendU_events (o : Option (List Byte)) : (s.sendU o).events = s.events := rfl
@[simp] theorem State.sendU_pattern (o : Option (List Byte)) : (s.sendU o).pattern = s.pattern := rfl
@[simp] theorem State.sendU_pending (o : Option (List Byte)) : (s.sendU o).pending = s.pending := rfl

/-! R8: the expected number set. -/

@[simp] theorem State.expect_pins (n : FrameNo) : (s.expect n).pins = s.pins := rfl
@[simp] theorem State.expect_chain (n : FrameNo) : (s.expect n).chain = { s.chain with expected := n } := rfl
@[simp] theorem State.expect_level (n : FrameNo) : (s.expect n).level = s.level := rfl
@[simp] theorem State.expect_pickups (n : FrameNo) : (s.expect n).pickups = s.pickups := rfl
@[simp] theorem State.expect_buffer (n : FrameNo) : (s.expect n).buffer = s.buffer := rfl
@[simp] theorem State.expect_delay (n : FrameNo) : (s.expect n).delay = s.delay := rfl
@[simp] theorem State.expect_taps (n : FrameNo) : (s.expect n).taps = s.taps := rfl
@[simp] theorem State.expect_cores (n : FrameNo) : (s.expect n).cores = s.cores := rfl
@[simp] theorem State.expect_scenes (n : FrameNo) : (s.expect n).scenes = s.scenes := rfl
@[simp] theorem State.expect_check (n : FrameNo) : (s.expect n).check = s.check := rfl
@[simp] theorem State.expect_cue (n : FrameNo) : (s.expect n).cue = s.cue := rfl
@[simp] theorem State.expect_guards (n : FrameNo) : (s.expect n).guards = s.guards := rfl
@[simp] theorem State.expect_hold (n : FrameNo) : (s.expect n).hold = s.hold := rfl
@[simp] theorem State.expect_lane (n : FrameNo) : (s.expect n).lane = s.lane := rfl
@[simp] theorem State.expect_events (n : FrameNo) : (s.expect n).events = s.events := rfl
@[simp] theorem State.expect_pattern (n : FrameNo) : (s.expect n).pattern = s.pattern := rfl
@[simp] theorem State.expect_pending (n : FrameNo) : (s.expect n).pending = s.pending := rfl

/-! R117: a cue armed. -/

@[simp] theorem State.armCue_pins (i : Fin 16) (x : FrameNo) (b : Bool) :
    (s.armCue i x b).pins =
      s.pins := rfl
@[simp] theorem State.armCue_chain (i : Fin 16) (x : FrameNo) (b : Bool) :
    (s.armCue i x b).chain =
      s.chain := rfl
@[simp] theorem State.armCue_level (i : Fin 16) (x : FrameNo) (b : Bool) :
    (s.armCue i x b).level =
      s.level := rfl
@[simp] theorem State.armCue_pickups (i : Fin 16) (x : FrameNo) (b : Bool) :
    (s.armCue i x b).pickups =
      s.pickups := rfl
@[simp] theorem State.armCue_buffer (i : Fin 16) (x : FrameNo) (b : Bool) :
    (s.armCue i x b).buffer =
      s.buffer := rfl
@[simp] theorem State.armCue_delay (i : Fin 16) (x : FrameNo) (b : Bool) :
    (s.armCue i x b).delay =
      s.delay := rfl
@[simp] theorem State.armCue_taps (i : Fin 16) (x : FrameNo) (b : Bool) :
    (s.armCue i x b).taps =
      s.taps := rfl
@[simp] theorem State.armCue_scenes (i : Fin 16) (x : FrameNo) (b : Bool) :
    (s.armCue i x b).scenes =
      armScene i s.scenes := rfl
@[simp] theorem State.armCue_check (i : Fin 16) (x : FrameNo) (b : Bool) :
    (s.armCue i x b).check =
      s.check := rfl
@[simp] theorem State.armCue_cue (i : Fin 16) (x : FrameNo) (b : Bool) :
    (s.armCue i x b).cue =
      s.cue.arm i x b := rfl
@[simp] theorem State.armCue_guards (i : Fin 16) (x : FrameNo) (b : Bool) :
    (s.armCue i x b).guards =
      s.guards := rfl
@[simp] theorem State.armCue_hold (i : Fin 16) (x : FrameNo) (b : Bool) :
    (s.armCue i x b).hold =
      s.hold := rfl
@[simp] theorem State.armCue_lane (i : Fin 16) (x : FrameNo) (b : Bool) :
    (s.armCue i x b).lane =
      s.lane := rfl
@[simp] theorem State.armCue_events (i : Fin 16) (x : FrameNo) (b : Bool) :
    (s.armCue i x b).events =
      s.events := rfl
@[simp] theorem State.armCue_pattern (i : Fin 16) (x : FrameNo) (b : Bool) :
    (s.armCue i x b).pattern =
      s.pattern := rfl
@[simp] theorem State.armCue_pending (i : Fin 16) (x : FrameNo) (b : Bool) :
    (s.armCue i x b).pending =
      s.pending := rfl

/-! R155: a node reset. -/

@[simp] theorem State.nodeReset_pins : s.nodeReset.pins = s.pins := rfl
@[simp] theorem State.nodeReset_chain : s.nodeReset.chain = s.chain := rfl
@[simp] theorem State.nodeReset_level : s.nodeReset.level = Level.reset := rfl
@[simp] theorem State.nodeReset_pickups : s.nodeReset.pickups = Bank.fill 48 Pickup.reset := rfl
@[simp] theorem State.nodeReset_buffer : s.nodeReset.buffer = Bank.fill 16 BufferEntry.cleared := rfl
@[simp] theorem State.nodeReset_delay : s.nodeReset.delay = Bank.fill 48 [] := rfl
@[simp] theorem State.nodeReset_taps : s.nodeReset.taps = TapEngine.reset := rfl
@[simp] theorem State.nodeReset_cores : s.nodeReset.cores = Bank.fill 4 RevCore.reset := rfl
@[simp] theorem State.nodeReset_scenes : s.nodeReset.scenes = Bank.fill 16 Scene.reset := rfl
@[simp] theorem State.nodeReset_check : s.nodeReset.check = none := rfl
@[simp] theorem State.nodeReset_cue : s.nodeReset.cue = CueUnit.reset := rfl
@[simp] theorem State.nodeReset_guards : s.nodeReset.guards = Bank.fill 32 Guard.reset := rfl
@[simp] theorem State.nodeReset_lane : s.nodeReset.lane = Lane.reset := rfl
@[simp] theorem State.nodeReset_events : s.nodeReset.events = Events.reset := rfl
@[simp] theorem State.nodeReset_pattern : s.nodeReset.pattern = Pattern.reset := rfl
@[simp] theorem State.nodeReset_pending : s.nodeReset.pending = s.pending := rfl

/-! R4: a sync pattern found at Port U. -/

@[simp] theorem State.findSyncU_pins : s.findSyncU.pins = s.pins := rfl
@[simp] theorem State.findSyncU_chain : s.findSyncU.chain = { s.chain with syncU := true } := rfl
@[simp] theorem State.findSyncU_level : s.findSyncU.level = s.level := rfl
@[simp] theorem State.findSyncU_pickups : s.findSyncU.pickups = s.pickups := rfl
@[simp] theorem State.findSyncU_buffer : s.findSyncU.buffer = s.buffer := rfl
@[simp] theorem State.findSyncU_delay : s.findSyncU.delay = s.delay := rfl
@[simp] theorem State.findSyncU_taps : s.findSyncU.taps = s.taps := rfl
@[simp] theorem State.findSyncU_cores : s.findSyncU.cores = s.cores := rfl
@[simp] theorem State.findSyncU_scenes : s.findSyncU.scenes = s.scenes := rfl
@[simp] theorem State.findSyncU_check : s.findSyncU.check = s.check := rfl
@[simp] theorem State.findSyncU_cue : s.findSyncU.cue = s.cue := rfl
@[simp] theorem State.findSyncU_guards : s.findSyncU.guards = s.guards := rfl
@[simp] theorem State.findSyncU_hold : s.findSyncU.hold = s.hold := rfl
@[simp] theorem State.findSyncU_lane : s.findSyncU.lane = s.lane := rfl
@[simp] theorem State.findSyncU_events : s.findSyncU.events = s.events := rfl
@[simp] theorem State.findSyncU_pattern : s.findSyncU.pattern = s.pattern := rfl
@[simp] theorem State.findSyncU_pending : s.findSyncU.pending = s.pending := rfl

/-! R4: a sync pattern found at Port D. -/

@[simp] theorem State.findSyncD_pins : s.findSyncD.pins = s.pins := rfl
@[simp] theorem State.findSyncD_chain : s.findSyncD.chain = { s.chain with syncD := true } := rfl
@[simp] theorem State.findSyncD_level : s.findSyncD.level = s.level := rfl
@[simp] theorem State.findSyncD_pickups : s.findSyncD.pickups = s.pickups := rfl
@[simp] theorem State.findSyncD_buffer : s.findSyncD.buffer = s.buffer := rfl
@[simp] theorem State.findSyncD_delay : s.findSyncD.delay = s.delay := rfl
@[simp] theorem State.findSyncD_taps : s.findSyncD.taps = s.taps := rfl
@[simp] theorem State.findSyncD_cores : s.findSyncD.cores = s.cores := rfl
@[simp] theorem State.findSyncD_scenes : s.findSyncD.scenes = s.scenes := rfl
@[simp] theorem State.findSyncD_check : s.findSyncD.check = s.check := rfl
@[simp] theorem State.findSyncD_cue : s.findSyncD.cue = s.cue := rfl
@[simp] theorem State.findSyncD_guards : s.findSyncD.guards = s.guards := rfl
@[simp] theorem State.findSyncD_hold : s.findSyncD.hold = s.hold := rfl
@[simp] theorem State.findSyncD_lane : s.findSyncD.lane = s.lane := rfl
@[simp] theorem State.findSyncD_events : s.findSyncD.events = s.events := rfl
@[simp] theorem State.findSyncD_pattern : s.findSyncD.pattern = s.pattern := rfl
@[simp] theorem State.findSyncD_pending : s.findSyncD.pending = s.pending := rfl

end Sys2Proof.Machine
end

