-- ==== Sys2Proof/Laws/Frames.lean ====
section
/-!
SUPPORT. What each shared operation leaves as it was, said once per operation.
-/

namespace Sys2Proof.Machine

variable (s : State)

/-- A latch set on a condition: nothing but the Event Unit. -/
@[simp] theorem State.latchIf_frame (b : Bool) (e : Event) :
    (s.latchIf b e).pins = s.pins ∧ (s.latchIf b e).chain = s.chain ∧ (s.latchIf b e).level = s.level ∧
    (s.latchIf b e).pickups = s.pickups ∧ (s.latchIf b e).buffer = s.buffer ∧
    (s.latchIf b e).delay = s.delay ∧ (s.latchIf b e).taps = s.taps ∧ (s.latchIf b e).cores = s.cores ∧
    (s.latchIf b e).scenes = s.scenes ∧ (s.latchIf b e).check = s.check ∧ (s.latchIf b e).cue = s.cue ∧
    (s.latchIf b e).guards = s.guards ∧ (s.latchIf b e).hold = s.hold ∧ (s.latchIf b e).lane = s.lane ∧
    (s.latchIf b e).pattern = s.pattern ∧ (s.latchIf b e).pending = s.pending := by
  cases b <;> simp [State.latchIf]

/-- R163: a reply that may be missing: nothing but the lane. -/
@[simp] theorem State.pushReply?_frame (t : Option Ticket) (st : Status) (d : List Byte) :
    (s.pushReply? t st d).pins = s.pins ∧ (s.pushReply? t st d).chain = s.chain ∧
    (s.pushReply? t st d).level = s.level ∧ (s.pushReply? t st d).pickups = s.pickups ∧
    (s.pushReply? t st d).buffer = s.buffer ∧ (s.pushReply? t st d).delay = s.delay ∧
    (s.pushReply? t st d).taps = s.taps ∧ (s.pushReply? t st d).cores = s.cores ∧
    (s.pushReply? t st d).scenes = s.scenes ∧ (s.pushReply? t st d).check = s.check ∧
    (s.pushReply? t st d).cue = s.cue ∧ (s.pushReply? t st d).guards = s.guards ∧
    (s.pushReply? t st d).hold = s.hold ∧ (s.pushReply? t st d).events = s.events ∧
    (s.pushReply? t st d).pattern = s.pattern ∧ (s.pushReply? t st d).pending = s.pending := by
  cases t <;> simp [State.pushReply?]

/-- R161: a command offered: nothing but the lane and the Event Unit. -/
@[simp] theorem State.offer_frame (i : Fin 16) (k t : Byte) (p : List Byte) (b : Bool) :
    (s.offer i k t p b).pins = s.pins ∧ (s.offer i k t p b).chain = s.chain ∧
    (s.offer i k t p b).level = s.level ∧ (s.offer i k t p b).pickups = s.pickups ∧
    (s.offer i k t p b).buffer = s.buffer ∧ (s.offer i k t p b).delay = s.delay ∧
    (s.offer i k t p b).taps = s.taps ∧ (s.offer i k t p b).cores = s.cores ∧
    (s.offer i k t p b).scenes = s.scenes ∧ (s.offer i k t p b).check = s.check ∧
    (s.offer i k t p b).cue = s.cue ∧ (s.offer i k t p b).guards = s.guards ∧
    (s.offer i k t p b).hold = s.hold ∧ (s.offer i k t p b).pattern = s.pattern ∧
    (s.offer i k t p b).pending = s.pending := by
  unfold State.offer
  split <;> simp

/-- R147: the hold state formed. -/
@[simp] theorem State.formHold_frame :
    s.formHold.pins = s.pins ∧ s.formHold.chain = s.chain ∧ s.formHold.level = s.level ∧
    s.formHold.pickups = s.pickups ∧ s.formHold.buffer = s.buffer ∧ s.formHold.delay = s.delay ∧
    s.formHold.taps = s.taps ∧ s.formHold.cores = s.cores ∧ s.formHold.scenes = s.scenes ∧
    s.formHold.check = s.check ∧ s.formHold.cue = s.cue ∧ s.formHold.guards = s.guards ∧
    s.formHold.lane = s.lane ∧ s.formHold.pattern = s.pattern ∧ s.formHold.pending = s.pending := by
  simp [State.formHold]

/-- R36: the hold level at 1024 at once. -/
@[simp] theorem State.holdAtOnce_frame :
    s.holdAtOnce.pins = s.pins ∧ s.holdAtOnce.chain = s.chain ∧ s.holdAtOnce.pickups = s.pickups ∧
    s.holdAtOnce.buffer = s.buffer ∧ s.holdAtOnce.delay = s.delay ∧ s.holdAtOnce.taps = s.taps ∧
    s.holdAtOnce.cores = s.cores ∧ s.holdAtOnce.scenes = s.scenes ∧ s.holdAtOnce.check = s.check ∧
    s.holdAtOnce.cue = s.cue ∧ s.holdAtOnce.guards = s.guards ∧ s.holdAtOnce.lane = s.lane ∧
    s.holdAtOnce.pattern = s.pattern ∧ s.holdAtOnce.pending = s.pending := by
  simp [State.holdAtOnce]

/-- R110: a check that passes. -/
@[simp] theorem State.endCheckPass_frame (c : CheckRun) :
    (s.endCheckPass c).pins = s.pins ∧ (s.endCheckPass c).chain = s.chain ∧
    (s.endCheckPass c).level = s.level ∧ (s.endCheckPass c).pickups = s.pickups ∧
    (s.endCheckPass c).buffer = s.buffer ∧ (s.endCheckPass c).delay = s.delay ∧
    (s.endCheckPass c).taps = s.taps ∧ (s.endCheckPass c).cores = s.cores ∧
    (s.endCheckPass c).cue = s.cue ∧ (s.endCheckPass c).guards = s.guards ∧
    (s.endCheckPass c).hold = s.hold ∧ (s.endCheckPass c).events = s.events ∧
    (s.endCheckPass c).pattern = s.pattern ∧ (s.endCheckPass c).pending = s.pending := by
  simp [State.endCheckPass]

/-- R110: a check that fails. -/
@[simp] theorem State.endCheckFail_frame (c : CheckRun) (i : Nat) (r : CheckReason) :
    (s.endCheckFail c i r).pins = s.pins ∧ (s.endCheckFail c i r).chain = s.chain ∧
    (s.endCheckFail c i r).level = s.level ∧ (s.endCheckFail c i r).pickups = s.pickups ∧
    (s.endCheckFail c i r).buffer = s.buffer ∧ (s.endCheckFail c i r).delay = s.delay ∧
    (s.endCheckFail c i r).taps = s.taps ∧ (s.endCheckFail c i r).cores = s.cores ∧
    (s.endCheckFail c i r).cue = s.cue ∧ (s.endCheckFail c i r).guards = s.guards ∧
    (s.endCheckFail c i r).hold = s.hold ∧ (s.endCheckFail c i r).events = s.events ∧
    (s.endCheckFail c i r).pattern = s.pattern ∧ (s.endCheckFail c i r).pending = s.pending := by
  simp [State.endCheckFail]

/-- R111: a check aborted. -/
@[simp] theorem State.abortCheck_frame :
    s.abortCheck.pins = s.pins ∧ s.abortCheck.chain = s.chain ∧ s.abortCheck.level = s.level ∧
    s.abortCheck.pickups = s.pickups ∧ s.abortCheck.buffer = s.buffer ∧ s.abortCheck.delay = s.delay ∧
    s.abortCheck.taps = s.taps ∧ s.abortCheck.cores = s.cores ∧ s.abortCheck.cue = s.cue ∧
    s.abortCheck.guards = s.guards ∧ s.abortCheck.hold = s.hold ∧ s.abortCheck.events = s.events ∧
    s.abortCheck.pattern = s.pattern ∧ s.abortCheck.pending = s.pending := by
  unfold State.abortCheck
  split <;> simp

/-- R111: a check of one scene aborted. -/
@[simp] theorem State.abortCheckOf_frame (i : Fin 16) :
    (s.abortCheckOf i).pins = s.pins ∧ (s.abortCheckOf i).chain = s.chain ∧
    (s.abortCheckOf i).level = s.level ∧ (s.abortCheckOf i).pickups = s.pickups ∧
    (s.abortCheckOf i).buffer = s.buffer ∧ (s.abortCheckOf i).delay = s.delay ∧
    (s.abortCheckOf i).taps = s.taps ∧ (s.abortCheckOf i).cores = s.cores ∧
    (s.abortCheckOf i).cue = s.cue ∧ (s.abortCheckOf i).guards = s.guards ∧
    (s.abortCheckOf i).hold = s.hold ∧ (s.abortCheckOf i).events = s.events ∧
    (s.abortCheckOf i).pattern = s.pattern ∧ (s.abortCheckOf i).pending = s.pending := by
  unfold State.abortCheckOf
  split
  · simp
  · split <;> simp

/-- R79: a check that uses one core aborted. -/
@[simp] theorem State.abortCheckUsing_frame (c : Fin 4) :
    (s.abortCheckUsing c).pins = s.pins ∧ (s.abortCheckUsing c).chain = s.chain ∧
    (s.abortCheckUsing c).level = s.level ∧ (s.abortCheckUsing c).pickups = s.pickups ∧
    (s.abortCheckUsing c).buffer = s.buffer ∧ (s.abortCheckUsing c).delay = s.delay ∧
    (s.abortCheckUsing c).taps = s.taps ∧ (s.abortCheckUsing c).cores = s.cores ∧
    (s.abortCheckUsing c).cue = s.cue ∧ (s.abortCheckUsing c).guards = s.guards ∧
    (s.abortCheckUsing c).hold = s.hold ∧ (s.abortCheckUsing c).events = s.events ∧
    (s.abortCheckUsing c).pattern = s.pattern ∧ (s.abortCheckUsing c).pending = s.pending := by
  unfold State.abortCheckUsing
  split
  · simp
  · split <;> simp

/-- R15, R159: every message in assembly broken. -/
@[simp] theorem State.breakContexts_frame :
    s.breakContexts.pins = s.pins ∧ s.breakContexts.chain = s.chain ∧ s.breakContexts.level = s.level ∧
    s.breakContexts.pickups = s.pickups ∧ s.breakContexts.buffer = s.buffer ∧
    s.breakContexts.delay = s.delay ∧ s.breakContexts.taps = s.taps ∧ s.breakContexts.cores = s.cores ∧
    s.breakContexts.scenes = s.scenes ∧ s.breakContexts.check = s.check ∧ s.breakContexts.cue = s.cue ∧
    s.breakContexts.guards = s.guards ∧ s.breakContexts.hold = s.hold ∧
    s.breakContexts.pattern = s.pattern ∧ s.breakContexts.pending = s.pending := by
  simp [State.breakContexts]

/-- R15: entry into ISOLATED. -/
@[simp] theorem State.isolate_frame :
    s.isolate.pins = s.pins ∧ s.isolate.chain = s.chain ∧ s.isolate.scenes = s.scenes ∧
    s.isolate.check = s.check ∧ s.isolate.cue = s.cue ∧ s.isolate.lane = s.lane ∧
    s.isolate.pattern = s.pattern ∧ s.isolate.pending = s.pending := by
  unfold State.isolate
  split <;> simp

/-- R15: loss of the upstream side. -/
@[simp] theorem State.loseUpstream_frame :
    s.loseUpstream.pins = s.pins ∧ s.loseUpstream.scenes = s.scenes ∧ s.loseUpstream.check = s.check ∧
    s.loseUpstream.cue = s.cue ∧ s.loseUpstream.pattern = s.pattern ∧
    s.loseUpstream.pending = s.pending := by
  simp [State.loseUpstream]

/-- R151: entry into QUIET. -/
@[simp] theorem State.enterQuiet_frame :
    s.enterQuiet.pins = s.pins ∧ s.enterQuiet.chain = s.chain ∧ s.enterQuiet.cue = s.cue ∧
    s.enterQuiet.guards = s.guards ∧ s.enterQuiet.pattern = s.pattern ∧
    s.enterQuiet.pending = s.pending := by
  simp [State.enterQuiet]

/-- R122: a cue fires for its target. -/
@[simp] theorem State.fireTarget_frame (t : Fin 16) (k : FrameNo) :
    (s.fireTarget t k).pins = s.pins ∧ (s.fireTarget t k).chain = s.chain ∧
    (s.fireTarget t k).level = s.level ∧ (s.fireTarget t k).pickups = s.pickups ∧
    (s.fireTarget t k).buffer = s.buffer ∧ (s.fireTarget t k).delay = s.delay ∧
    (s.fireTarget t k).check = s.check ∧ (s.fireTarget t k).guards = s.guards ∧
    (s.fireTarget t k).hold = s.hold ∧ (s.fireTarget t k).lane = s.lane ∧
    (s.fireTarget t k).pattern = s.pattern ∧ (s.fireTarget t k).pending = s.pending := by
  unfold State.fireTarget
  dsimp only
  split <;> simp

/-- R122: a cue fires. -/
@[simp] theorem State.fire_frame (k : FrameNo) :
    (s.fire k).pins = s.pins ∧ (s.fire k).chain = s.chain ∧ (s.fire k).level = s.level ∧
    (s.fire k).pickups = s.pickups ∧ (s.fire k).buffer = s.buffer ∧ (s.fire k).delay = s.delay ∧
    (s.fire k).check = s.check ∧ (s.fire k).guards = s.guards ∧ (s.fire k).hold = s.hold ∧
    (s.fire k).lane = s.lane ∧ (s.fire k).pattern = s.pattern ∧ (s.fire k).pending = s.pending := by
  unfold State.fire
  split <;> simp

/-- R121: the due test. -/
@[simp] theorem State.testCue_frame (k : FrameNo) :
    (s.testCue k).pins = s.pins ∧ (s.testCue k).chain = s.chain ∧ (s.testCue k).level = s.level ∧
    (s.testCue k).pickups = s.pickups ∧ (s.testCue k).buffer = s.buffer ∧ (s.testCue k).delay = s.delay ∧
    (s.testCue k).check = s.check ∧ (s.testCue k).guards = s.guards ∧ (s.testCue k).hold = s.hold ∧
    (s.testCue k).lane = s.lane ∧ (s.testCue k).pattern = s.pattern ∧
    (s.testCue k).pending = s.pending := by
  unfold State.testCue
  split
  · simp
  · split <;> simp

/-- R124: the crossfade at a tick. -/
@[simp] theorem State.tickFade_frame (b : Bool) :
    (s.tickFade b).pins = s.pins ∧ (s.tickFade b).chain = s.chain ∧ (s.tickFade b).level = s.level ∧
    (s.tickFade b).pickups = s.pickups ∧ (s.tickFade b).buffer = s.buffer ∧
    (s.tickFade b).delay = s.delay ∧ (s.tickFade b).check = s.check ∧ (s.tickFade b).guards = s.guards ∧
    (s.tickFade b).hold = s.hold ∧ (s.tickFade b).lane = s.lane ∧ (s.tickFade b).events = s.events ∧
    (s.tickFade b).pattern = s.pattern ∧ (s.tickFade b).pending = s.pending := by
  unfold State.tickFade
  split
  · dsimp only
    split <;> simp
  · simp

/-- R23: a ramp tick. -/
@[simp] theorem State.rampTick_frame (b : Bool) :
    (s.rampTick b).pins = s.pins ∧ (s.rampTick b).chain = s.chain ∧ (s.rampTick b).buffer = s.buffer ∧
    (s.rampTick b).delay = s.delay ∧ (s.rampTick b).check = s.check ∧ (s.rampTick b).guards = s.guards ∧
    (s.rampTick b).lane = s.lane ∧ (s.rampTick b).pattern = s.pattern ∧
    (s.rampTick b).pending = s.pending := by
  simp [State.rampTick]

/-- R46: the pickups in a computation. -/
@[simp] theorem State.runPickups_frame (k : FrameNo) :
    (s.runPickups k).pins = s.pins ∧ (s.runPickups k).chain = s.chain ∧ (s.runPickups k).level = s.level ∧
    (s.runPickups k).buffer = s.buffer ∧ (s.runPickups k).taps = s.taps ∧
    (s.runPickups k).cores = s.cores ∧ (s.runPickups k).scenes = s.scenes ∧
    (s.runPickups k).check = s.check ∧ (s.runPickups k).cue = s.cue ∧ (s.runPickups k).guards = s.guards ∧
    (s.runPickups k).hold = s.hold ∧ (s.runPickups k).lane = s.lane ∧
    (s.runPickups k).pattern = s.pattern ∧ (s.runPickups k).pending = s.pending := by
  simp [State.runPickups]

/-- R33: feed saturations counted. -/
@[simp] theorem State.countFeedClips_frame (n : Nat) :
    (s.countFeedClips n).pins = s.pins ∧ (s.countFeedClips n).chain = s.chain ∧
    (s.countFeedClips n).level = s.level ∧ (s.countFeedClips n).pickups = s.pickups ∧
    (s.countFeedClips n).buffer = s.buffer ∧ (s.countFeedClips n).delay = s.delay ∧
    (s.countFeedClips n).taps = s.taps ∧ (s.countFeedClips n).cores = s.cores ∧
    (s.countFeedClips n).scenes = s.scenes ∧ (s.countFeedClips n).check = s.check ∧
    (s.countFeedClips n).cue = s.cue ∧ (s.countFeedClips n).guards = s.guards ∧
    (s.countFeedClips n).hold = s.hold ∧ (s.countFeedClips n).lane = s.lane ∧
    (s.countFeedClips n).pattern = s.pattern ∧ (s.countFeedClips n).pending = s.pending := by
  simp [State.countFeedClips]

/-- R108: a check advanced. -/
@[simp] theorem State.advanceCheck_frame :
    s.advanceCheck.pins = s.pins ∧ s.advanceCheck.chain = s.chain ∧ s.advanceCheck.level = s.level ∧
    s.advanceCheck.pickups = s.pickups ∧ s.advanceCheck.buffer = s.buffer ∧
    s.advanceCheck.delay = s.delay ∧ s.advanceCheck.taps = s.taps ∧ s.advanceCheck.cores = s.cores ∧
    s.advanceCheck.cue = s.cue ∧ s.advanceCheck.guards = s.guards ∧ s.advanceCheck.hold = s.hold ∧
    s.advanceCheck.events = s.events ∧ s.advanceCheck.pattern = s.pattern ∧
    s.advanceCheck.pending = s.pending := by
  unfold State.advanceCheck
  split
  · simp
  · split <;> simp

/-- R82: the cores in a computation. -/
@[simp] theorem State.runCores_frame (w : Option Nat) (inj : Fin 4 → Fin 8 → Int) :
    (s.runCores w inj).pins = s.pins ∧ (s.runCores w inj).chain = s.chain ∧
    (s.runCores w inj).level = s.level ∧ (s.runCores w inj).pickups = s.pickups ∧
    (s.runCores w inj).buffer = s.buffer ∧ (s.runCores w inj).delay = s.delay ∧
    (s.runCores w inj).taps = s.taps ∧ (s.runCores w inj).scenes = s.scenes ∧
    (s.runCores w inj).check = s.check ∧ (s.runCores w inj).cue = s.cue ∧
    (s.runCores w inj).guards = s.guards ∧ (s.runCores w inj).hold = s.hold ∧
    (s.runCores w inj).lane = s.lane ∧ (s.runCores w inj).pattern = s.pattern ∧
    (s.runCores w inj).pending = s.pending := by
  simp [State.runCores]

/-- R135: the Howl Guard at a tick. -/
@[simp] theorem State.tickGuard_frame (m : Fin 32 → Bool) :
    (s.tickGuard m).pins = s.pins ∧ (s.tickGuard m).chain = s.chain ∧ (s.tickGuard m).level = s.level ∧
    (s.tickGuard m).pickups = s.pickups ∧ (s.tickGuard m).buffer = s.buffer ∧
    (s.tickGuard m).delay = s.delay ∧ (s.tickGuard m).cores = s.cores ∧ (s.tickGuard m).scenes = s.scenes ∧
    (s.tickGuard m).check = s.check ∧ (s.tickGuard m).cue = s.cue ∧ (s.tickGuard m).lane = s.lane ∧
    (s.tickGuard m).pattern = s.pattern ∧ (s.tickGuard m).pending = s.pending := by
  simp [State.tickGuard]

/-- The beginning of a computation. -/
@[simp] theorem State.beginComputation_frame (k : FrameNo) :
    (s.beginComputation k).pins = s.pins ∧ (s.beginComputation k).chain = s.chain ∧
    (s.beginComputation k).buffer = s.buffer ∧ (s.beginComputation k).delay = s.delay ∧
    (s.beginComputation k).check = s.check ∧ (s.beginComputation k).guards = s.guards ∧
    (s.beginComputation k).lane = s.lane ∧ (s.beginComputation k).pattern = s.pattern ∧
    (s.beginComputation k).pending = s.pending := by
  unfold State.beginComputation
  dsimp only
  split <;> simp

/-- The samples of a computation. -/
@[simp] theorem State.runSamples_frame (k : FrameNo) :
    (s.runSamples k).pins = s.pins ∧ (s.runSamples k).chain = s.chain ∧ (s.runSamples k).level = s.level ∧
    (s.runSamples k).buffer = s.buffer ∧ (s.runSamples k).cue = s.cue ∧
    (s.runSamples k).guards = s.guards ∧ (s.runSamples k).hold = s.hold ∧
    (s.runSamples k).pattern = s.pattern ∧ (s.runSamples k).pending = s.pending := by
  simp [State.runSamples]

/-- R18: a computation changes neither the chain, the buffer, the pattern unit nor the pins. -/
@[simp] theorem State.compute_frame (k : FrameNo) :
    (s.compute k).pins = s.pins ∧ (s.compute k).chain = s.chain ∧ (s.compute k).buffer = s.buffer ∧
    (s.compute k).pattern = s.pattern ∧ (s.compute k).pending = s.pending := by
  unfold State.compute
  dsimp only
  split <;> simp

/-- R160: a complete message judged. -/
@[simp] theorem State.completeMessage_frame (i : Fin 16) (o : List Byte) (n d : Nat) (b : Bool) :
    (s.completeMessage i o n d b).pins = s.pins ∧ (s.completeMessage i o n d b).chain = s.chain ∧
    (s.completeMessage i o n d b).level = s.level ∧ (s.completeMessage i o n d b).pickups = s.pickups ∧
    (s.completeMessage i o n d b).buffer = s.buffer ∧ (s.completeMessage i o n d b).delay = s.delay ∧
    (s.completeMessage i o n d b).taps = s.taps ∧ (s.completeMessage i o n d b).cores = s.cores ∧
    (s.completeMessage i o n d b).scenes = s.scenes ∧ (s.completeMessage i o n d b).check = s.check ∧
    (s.completeMessage i o n d b).cue = s.cue ∧ (s.completeMessage i o n d b).guards = s.guards ∧
    (s.completeMessage i o n d b).hold = s.hold ∧ (s.completeMessage i o n d b).pattern = s.pattern ∧
    (s.completeMessage i o n d b).pending = s.pending := by
  unfold State.completeMessage
  split
  · split <;> simp
  · simp

/-- R158: an IDLE context takes a segment. -/
@[simp] theorem State.idleTakes_frame (i : Fin 16) (f : FrameNo) (g : Segment) :
    (s.idleTakes i f g).pins = s.pins ∧ (s.idleTakes i f g).chain = s.chain ∧
    (s.idleTakes i f g).level = s.level ∧ (s.idleTakes i f g).pickups = s.pickups ∧
    (s.idleTakes i f g).buffer = s.buffer ∧ (s.idleTakes i f g).delay = s.delay ∧
    (s.idleTakes i f g).taps = s.taps ∧ (s.idleTakes i f g).cores = s.cores ∧
    (s.idleTakes i f g).scenes = s.scenes ∧ (s.idleTakes i f g).check = s.check ∧
    (s.idleTakes i f g).cue = s.cue ∧ (s.idleTakes i f g).guards = s.guards ∧
    (s.idleTakes i f g).hold = s.hold ∧ (s.idleTakes i f g).pattern = s.pattern ∧
    (s.idleTakes i f g).pending = s.pending := by
  unfold State.idleTakes
  dsimp only
  split <;> (try split) <;> (try split) <;> simp

/-- R159: an ASSEMBLING context takes a segment. -/
@[simp] theorem State.assemblyTakes_frame (i : Fin 16) (a : Assembly) (f : FrameNo) (g : Segment) :
    (s.assemblyTakes i a f g).pins = s.pins ∧ (s.assemblyTakes i a f g).chain = s.chain ∧
    (s.assemblyTakes i a f g).level = s.level ∧ (s.assemblyTakes i a f g).pickups = s.pickups ∧
    (s.assemblyTakes i a f g).buffer = s.buffer ∧ (s.assemblyTakes i a f g).delay = s.delay ∧
    (s.assemblyTakes i a f g).taps = s.taps ∧ (s.assemblyTakes i a f g).cores = s.cores ∧
    (s.assemblyTakes i a f g).scenes = s.scenes ∧ (s.assemblyTakes i a f g).check = s.check ∧
    (s.assemblyTakes i a f g).cue = s.cue ∧ (s.assemblyTakes i a f g).guards = s.guards ∧
    (s.assemblyTakes i a f g).hold = s.hold ∧ (s.assemblyTakes i a f g).pattern = s.pattern ∧
    (s.assemblyTakes i a f g).pending = s.pending := by
  unfold State.assemblyTakes
  split
  · simp
  · split <;> (try split) <;> simp

/-- R156: a segment taken. -/
@[simp] theorem State.takeSegment_frame (f : FrameNo) (g : Segment) :
    (s.takeSegment f g).pins = s.pins ∧ (s.takeSegment f g).chain = s.chain ∧
    (s.takeSegment f g).level = s.level ∧ (s.takeSegment f g).pickups = s.pickups ∧
    (s.takeSegment f g).buffer = s.buffer ∧ (s.takeSegment f g).delay = s.delay ∧
    (s.takeSegment f g).taps = s.taps ∧ (s.takeSegment f g).cores = s.cores ∧
    (s.takeSegment f g).scenes = s.scenes ∧ (s.takeSegment f g).check = s.check ∧
    (s.takeSegment f g).cue = s.cue ∧ (s.takeSegment f g).guards = s.guards ∧
    (s.takeSegment f g).hold = s.hold ∧ (s.takeSegment f g).pattern = s.pattern ∧
    (s.takeSegment f g).pending = s.pending := by
  unfold State.takeSegment
  split
  · simp
  · split <;> simp

/-- R156: a segment lost. -/
@[simp] theorem State.loseSegment_frame (f : FrameNo) :
    (s.loseSegment f).pins = s.pins ∧ (s.loseSegment f).chain = s.chain ∧
    (s.loseSegment f).level = s.level ∧ (s.loseSegment f).pickups = s.pickups ∧
    (s.loseSegment f).buffer = s.buffer ∧ (s.loseSegment f).delay = s.delay ∧
    (s.loseSegment f).taps = s.taps ∧ (s.loseSegment f).cores = s.cores ∧
    (s.loseSegment f).scenes = s.scenes ∧ (s.loseSegment f).check = s.check ∧
    (s.loseSegment f).cue = s.cue ∧ (s.loseSegment f).guards = s.guards ∧ (s.loseSegment f).hold = s.hold ∧
    (s.loseSegment f).pattern = s.pattern ∧ (s.loseSegment f).pending = s.pending := by
  unfold State.loseSegment
  split
  · simp
  · split <;> simp

/-- R156: a return frame's segment read. -/
@[simp] theorem State.readSegment_frame (f : FrameNo) (g : Segment) :
    (s.readSegment f g).pins = s.pins ∧ (s.readSegment f g).chain = s.chain ∧
    (s.readSegment f g).level = s.level ∧ (s.readSegment f g).pickups = s.pickups ∧
    (s.readSegment f g).buffer = s.buffer ∧ (s.readSegment f g).delay = s.delay ∧
    (s.readSegment f g).taps = s.taps ∧ (s.readSegment f g).cores = s.cores ∧
    (s.readSegment f g).scenes = s.scenes ∧ (s.readSegment f g).check = s.check ∧
    (s.readSegment f g).cue = s.cue ∧ (s.readSegment f g).guards = s.guards ∧
    (s.readSegment f g).hold = s.hold ∧ (s.readSegment f g).pattern = s.pattern ∧
    (s.readSegment f g).pending = s.pending := by
  unfold State.readSegment
  split <;> simp

/-- R156: a frame lost. -/
@[simp] theorem State.takeLoss_frame (f : FrameNo) :
    (s.takeLoss f).pins = s.pins ∧ (s.takeLoss f).chain = s.chain ∧ (s.takeLoss f).level = s.level ∧
    (s.takeLoss f).pickups = s.pickups ∧ (s.takeLoss f).buffer = s.buffer ∧
    (s.takeLoss f).delay = s.delay ∧ (s.takeLoss f).taps = s.taps ∧ (s.takeLoss f).cores = s.cores ∧
    (s.takeLoss f).scenes = s.scenes ∧ (s.takeLoss f).check = s.check ∧ (s.takeLoss f).cue = s.cue ∧
    (s.takeLoss f).guards = s.guards ∧ (s.takeLoss f).hold = s.hold ∧ (s.takeLoss f).pattern = s.pattern ∧
    (s.takeLoss f).pending = s.pending := by
  unfold State.takeLoss
  split <;> simp

/-- R164: an own turn missed. -/
@[simp] theorem State.missTurn_frame (n : FrameNo) :
    (s.missTurn n).pins = s.pins ∧ (s.missTurn n).chain = s.chain ∧ (s.missTurn n).level = s.level ∧
    (s.missTurn n).pickups = s.pickups ∧ (s.missTurn n).buffer = s.buffer ∧
    (s.missTurn n).delay = s.delay ∧ (s.missTurn n).taps = s.taps ∧ (s.missTurn n).cores = s.cores ∧
    (s.missTurn n).scenes = s.scenes ∧ (s.missTurn n).check = s.check ∧ (s.missTurn n).cue = s.cue ∧
    (s.missTurn n).guards = s.guards ∧ (s.missTurn n).hold = s.hold ∧ (s.missTurn n).events = s.events ∧
    (s.missTurn n).pattern = s.pattern ∧ (s.missTurn n).pending = s.pending := by
  unfold State.missTurn
  split <;> simp

/-- R165: a reply abandoned. -/
@[simp] theorem State.abandonReply_frame (n : FrameNo) :
    (s.abandonReply n).pins = s.pins ∧ (s.abandonReply n).chain = s.chain ∧
    (s.abandonReply n).level = s.level ∧ (s.abandonReply n).pickups = s.pickups ∧
    (s.abandonReply n).buffer = s.buffer ∧ (s.abandonReply n).delay = s.delay ∧
    (s.abandonReply n).taps = s.taps ∧ (s.abandonReply n).cores = s.cores ∧
    (s.abandonReply n).scenes = s.scenes ∧ (s.abandonReply n).check = s.check ∧
    (s.abandonReply n).cue = s.cue ∧ (s.abandonReply n).guards = s.guards ∧
    (s.abandonReply n).hold = s.hold ∧ (s.abandonReply n).events = s.events ∧
    (s.abandonReply n).pattern = s.pattern ∧ (s.abandonReply n).pending = s.pending := by
  unfold State.abandonReply
  split <;> simp

/-- R163: a reply's segment sent. -/
@[simp] theorem State.advanceReply_frame :
    s.advanceReply.pins = s.pins ∧ s.advanceReply.chain = s.chain ∧ s.advanceReply.level = s.level ∧
    s.advanceReply.pickups = s.pickups ∧ s.advanceReply.buffer = s.buffer ∧
    s.advanceReply.delay = s.delay ∧ s.advanceReply.taps = s.taps ∧ s.advanceReply.cores = s.cores ∧
    s.advanceReply.scenes = s.scenes ∧ s.advanceReply.check = s.check ∧ s.advanceReply.cue = s.cue ∧
    s.advanceReply.guards = s.guards ∧ s.advanceReply.hold = s.hold ∧ s.advanceReply.events = s.events ∧
    s.advanceReply.pattern = s.pattern ∧ s.advanceReply.pending = s.pending := by
  unfold State.advanceReply
  split
  · simp
  · split <;> simp

/-- R11: the turnaround state settled. -/
@[simp] theorem State.settleTurnaround_frame :
    s.settleTurnaround.pins = s.pins ∧ s.settleTurnaround.level = s.level ∧
    s.settleTurnaround.pickups = s.pickups ∧ s.settleTurnaround.buffer = s.buffer ∧
    s.settleTurnaround.delay = s.delay ∧ s.settleTurnaround.taps = s.taps ∧
    s.settleTurnaround.cores = s.cores ∧ s.settleTurnaround.scenes = s.scenes ∧
    s.settleTurnaround.check = s.check ∧ s.settleTurnaround.cue = s.cue ∧
    s.settleTurnaround.guards = s.guards ∧ s.settleTurnaround.hold = s.hold ∧
    s.settleTurnaround.lane = s.lane ∧ s.settleTurnaround.pattern = s.pattern ∧
    s.settleTurnaround.pending = s.pending := by
  simp [State.settleTurnaround]

/-- R5: Port D set. -/
@[simp] theorem State.setPortD_frame (p : PortRx) :
    (s.setPortD p).pins = s.pins ∧ (s.setPortD p).level = s.level ∧ (s.setPortD p).pickups = s.pickups ∧
    (s.setPortD p).buffer = s.buffer ∧ (s.setPortD p).delay = s.delay ∧ (s.setPortD p).taps = s.taps ∧
    (s.setPortD p).cores = s.cores ∧ (s.setPortD p).scenes = s.scenes ∧ (s.setPortD p).check = s.check ∧
    (s.setPortD p).cue = s.cue ∧ (s.setPortD p).guards = s.guards ∧ (s.setPortD p).hold = s.hold ∧
    (s.setPortD p).lane = s.lane ∧ (s.setPortD p).pattern = s.pattern ∧
    (s.setPortD p).pending = s.pending := by
  simp [State.setPortD]

/-- R15: Port U leaves LOCKED. -/
@[simp] theorem State.unlockU_frame (p : PortRx) :
    (s.unlockU p).pins = s.pins ∧ (s.unlockU p).scenes = s.scenes ∧ (s.unlockU p).check = s.check ∧
    (s.unlockU p).cue = s.cue ∧ (s.unlockU p).pattern = s.pattern ∧ (s.unlockU p).pending = s.pending := by
  simp [State.unlockU]

/-- R191: the checker takes a word. -/
@[simp] theorem State.checkPattern_frame (f : Frame) :
    (s.checkPattern f).pins = s.pins ∧ (s.checkPattern f).chain = s.chain ∧
    (s.checkPattern f).level = s.level ∧ (s.checkPattern f).pickups = s.pickups ∧
    (s.checkPattern f).buffer = s.buffer ∧ (s.checkPattern f).delay = s.delay ∧
    (s.checkPattern f).taps = s.taps ∧ (s.checkPattern f).cores = s.cores ∧
    (s.checkPattern f).scenes = s.scenes ∧ (s.checkPattern f).check = s.check ∧
    (s.checkPattern f).cue = s.cue ∧ (s.checkPattern f).guards = s.guards ∧
    (s.checkPattern f).hold = s.hold ∧ (s.checkPattern f).lane = s.lane ∧
    (s.checkPattern f).pending = s.pending := by
  unfold State.checkPattern
  dsimp only
  split <;> simp

/-- R10: a return frame read. -/
@[simp] theorem State.readReturn_frame (f : Frame) :
    (s.readReturn f).pins = s.pins ∧ (s.readReturn f).chain = s.chain ∧ (s.readReturn f).level = s.level ∧
    (s.readReturn f).pickups = s.pickups ∧ (s.readReturn f).delay = s.delay ∧
    (s.readReturn f).taps = s.taps ∧ (s.readReturn f).cores = s.cores ∧
    (s.readReturn f).scenes = s.scenes ∧ (s.readReturn f).check = s.check ∧ (s.readReturn f).cue = s.cue ∧
    (s.readReturn f).guards = s.guards ∧ (s.readReturn f).hold = s.hold ∧
    (s.readReturn f).pending = s.pending := by
  unfold State.readReturn
  dsimp only
  split <;> simp

/-- R165: the clash tests. -/
@[simp] theorem State.noteClash_frame (f : Frame) :
    (s.noteClash f).pins = s.pins ∧ (s.noteClash f).chain = s.chain ∧ (s.noteClash f).level = s.level ∧
    (s.noteClash f).pickups = s.pickups ∧ (s.noteClash f).buffer = s.buffer ∧
    (s.noteClash f).delay = s.delay ∧ (s.noteClash f).taps = s.taps ∧ (s.noteClash f).cores = s.cores ∧
    (s.noteClash f).scenes = s.scenes ∧ (s.noteClash f).check = s.check ∧ (s.noteClash f).cue = s.cue ∧
    (s.noteClash f).guards = s.guards ∧ (s.noteClash f).hold = s.hold ∧
    (s.noteClash f).pattern = s.pattern ∧ (s.noteClash f).pending = s.pending := by
  unfold State.noteClash
  split <;> simp

/-- R163: after the outbound writes. -/
@[simp] theorem State.afterWrites_frame (f : Frame) :
    (s.afterWrites f).pins = s.pins ∧ (s.afterWrites f).chain = s.chain ∧
    (s.afterWrites f).level = s.level ∧ (s.afterWrites f).pickups = s.pickups ∧
    (s.afterWrites f).buffer = s.buffer ∧ (s.afterWrites f).delay = s.delay ∧
    (s.afterWrites f).taps = s.taps ∧ (s.afterWrites f).cores = s.cores ∧
    (s.afterWrites f).scenes = s.scenes ∧ (s.afterWrites f).check = s.check ∧
    (s.afterWrites f).cue = s.cue ∧ (s.afterWrites f).guards = s.guards ∧ (s.afterWrites f).hold = s.hold ∧
    (s.afterWrites f).pattern = s.pattern ∧ (s.afterWrites f).pending = s.pending := by
  unfold State.afterWrites
  split
  · simp
  · split <;> simp

/-- R13, R156: an outbound frame counted, and the loss it shows taken. -/
@[simp] theorem State.countFrame_frame (n : FrameNo) :
    (s.countFrame n).pins = s.pins ∧ (s.countFrame n).level = s.level ∧
    (s.countFrame n).pickups = s.pickups ∧ (s.countFrame n).buffer = s.buffer ∧
    (s.countFrame n).delay = s.delay ∧ (s.countFrame n).taps = s.taps ∧ (s.countFrame n).cores = s.cores ∧
    (s.countFrame n).scenes = s.scenes ∧ (s.countFrame n).check = s.check ∧ (s.countFrame n).cue = s.cue ∧
    (s.countFrame n).guards = s.guards ∧ (s.countFrame n).hold = s.hold ∧
    (s.countFrame n).pattern = s.pattern ∧ (s.countFrame n).pending = s.pending := by
  simp [State.countFrame]

/-- R18: what a frame period brings. -/
@[simp] theorem State.paceFrame_frame (n : FrameNo) :
    (s.paceFrame n).pins = s.pins ∧ (s.paceFrame n).buffer = s.buffer ∧
    (s.paceFrame n).pending = s.pending := by
  unfold State.paceFrame
  split <;> simp

/-- R9: a good outbound frame handled. -/
@[simp] theorem State.handleGood_frame (f : Frame) :
    (s.handleGood f).pins = s.pins ∧ (s.handleGood f).pending = s.pending := by
  unfold State.handleGood
  dsimp only
  split <;> simp

/-- R7: a bad outbound frame handled. -/
@[simp] theorem State.handleBad_frame (n : FrameNo) (o : Option (List Byte)) :
    (s.handleBad n o).pins = s.pins ∧ (s.handleBad n o).buffer = s.buffer ∧
    (s.handleBad n o).pending = s.pending := by
  unfold State.handleBad
  dsimp only
  split <;> simp

/-- R10: a good return frame passed. -/
@[simp] theorem State.passGoodReturn_frame (f : Frame) (o : List Byte) :
    (s.passGoodReturn f o).pins = s.pins ∧ (s.passGoodReturn f o).level = s.level ∧
    (s.passGoodReturn f o).pickups = s.pickups ∧ (s.passGoodReturn f o).delay = s.delay ∧
    (s.passGoodReturn f o).taps = s.taps ∧ (s.passGoodReturn f o).cores = s.cores ∧
    (s.passGoodReturn f o).scenes = s.scenes ∧ (s.passGoodReturn f o).check = s.check ∧
    (s.passGoodReturn f o).cue = s.cue ∧ (s.passGoodReturn f o).guards = s.guards ∧
    (s.passGoodReturn f o).hold = s.hold ∧ (s.passGoodReturn f o).pending = s.pending := by
  unfold State.passGoodReturn
  split
  · simp
  · simp
  · split <;> simp

/-- R12: a bad return frame period passed. -/
@[simp] theorem State.passBadReturn_frame (o : Option (List Byte)) :
    (s.passBadReturn o).pins = s.pins ∧ (s.passBadReturn o).level = s.level ∧
    (s.passBadReturn o).pickups = s.pickups ∧ (s.passBadReturn o).buffer = s.buffer ∧
    (s.passBadReturn o).delay = s.delay ∧ (s.passBadReturn o).taps = s.taps ∧
    (s.passBadReturn o).cores = s.cores ∧ (s.passBadReturn o).scenes = s.scenes ∧
    (s.passBadReturn o).check = s.check ∧ (s.passBadReturn o).cue = s.cue ∧
    (s.passBadReturn o).guards = s.guards ∧ (s.passBadReturn o).hold = s.hold ∧
    (s.passBadReturn o).lane = s.lane ∧ (s.passBadReturn o).events = s.events ∧
    (s.passBadReturn o).pattern = s.pattern ∧ (s.passBadReturn o).pending = s.pending := by
  unfold State.passBadReturn
  split <;> simp

/-- R117: a cue taken. -/
@[simp] theorem State.takeCue_frame (i : Fin 16) (x : FrameNo) (b : Bool) :
    (s.takeCue i x b).pins = s.pins ∧ (s.takeCue i x b).chain = s.chain ∧
    (s.takeCue i x b).level = s.level ∧ (s.takeCue i x b).pickups = s.pickups ∧
    (s.takeCue i x b).buffer = s.buffer ∧ (s.takeCue i x b).delay = s.delay ∧
    (s.takeCue i x b).taps = s.taps ∧ (s.takeCue i x b).check = s.check ∧
    (s.takeCue i x b).guards = s.guards ∧ (s.takeCue i x b).hold = s.hold ∧
    (s.takeCue i x b).lane = s.lane ∧ (s.takeCue i x b).pattern = s.pattern ∧
    (s.takeCue i x b).pending = s.pending := by
  unfold State.takeCue
  split
  · split <;> simp
  · simp

/-- R120: a cue cancelled. -/
@[simp] theorem State.cancelCue_frame :
    s.cancelCue.pins = s.pins ∧ s.cancelCue.chain = s.chain ∧ s.cancelCue.level = s.level ∧
    s.cancelCue.pickups = s.pickups ∧ s.cancelCue.buffer = s.buffer ∧ s.cancelCue.delay = s.delay ∧
    s.cancelCue.taps = s.taps ∧ s.cancelCue.check = s.check ∧ s.cancelCue.guards = s.guards ∧
    s.cancelCue.hold = s.hold ∧ s.cancelCue.lane = s.lane ∧ s.cancelCue.events = s.events ∧
    s.cancelCue.pattern = s.pattern ∧ s.cancelCue.pending = s.pending := by
  unfold State.cancelCue
  split <;> simp

/-- R104: a scene emptied. -/
@[simp] theorem State.clearScene_frame (i : Fin 16) :
    (s.clearScene i).pins = s.pins ∧ (s.clearScene i).chain = s.chain ∧ (s.clearScene i).level = s.level ∧
    (s.clearScene i).pickups = s.pickups ∧ (s.clearScene i).buffer = s.buffer ∧
    (s.clearScene i).delay = s.delay ∧ (s.clearScene i).taps = s.taps ∧ (s.clearScene i).cores = s.cores ∧
    (s.clearScene i).cue = s.cue ∧ (s.clearScene i).guards = s.guards ∧ (s.clearScene i).hold = s.hold ∧
    (s.clearScene i).events = s.events ∧ (s.clearScene i).pattern = s.pattern ∧
    (s.clearScene i).pending = s.pending := by
  simp [State.clearScene]

/-- R103: a header taken. -/
@[simp] theorem State.setHeader_frame (i : Fin 16) (h : Header) :
    (s.setHeader i h).pins = s.pins ∧ (s.setHeader i h).chain = s.chain ∧
    (s.setHeader i h).level = s.level ∧ (s.setHeader i h).pickups = s.pickups ∧
    (s.setHeader i h).buffer = s.buffer ∧ (s.setHeader i h).delay = s.delay ∧
    (s.setHeader i h).taps = s.taps ∧ (s.setHeader i h).cores = s.cores ∧ (s.setHeader i h).cue = s.cue ∧
    (s.setHeader i h).guards = s.guards ∧ (s.setHeader i h).hold = s.hold ∧
    (s.setHeader i h).events = s.events ∧ (s.setHeader i h).pattern = s.pattern ∧
    (s.setHeader i h).pending = s.pending := by
  simp [State.setHeader]

/-- R102: tap records taken. -/
@[simp] theorem State.putTaps_frame (i : Fin 16) (n : Nat) (l : List Tap) :
    (s.putTaps i n l).pins = s.pins ∧ (s.putTaps i n l).chain = s.chain ∧
    (s.putTaps i n l).level = s.level ∧ (s.putTaps i n l).pickups = s.pickups ∧
    (s.putTaps i n l).buffer = s.buffer ∧ (s.putTaps i n l).delay = s.delay ∧
    (s.putTaps i n l).taps = s.taps ∧ (s.putTaps i n l).cores = s.cores ∧ (s.putTaps i n l).cue = s.cue ∧
    (s.putTaps i n l).guards = s.guards ∧ (s.putTaps i n l).hold = s.hold ∧
    (s.putTaps i n l).events = s.events ∧ (s.putTaps i n l).pattern = s.pattern ∧
    (s.putTaps i n l).pending = s.pending := by
  simp [State.putTaps]

/-- R78: a core takes a new shape. -/
@[simp] theorem State.shapeCore_frame (c : Fin 4) (l : Bank 8 Nat) :
    (s.shapeCore c l).pins = s.pins ∧ (s.shapeCore c l).chain = s.chain ∧
    (s.shapeCore c l).level = s.level ∧ (s.shapeCore c l).pickups = s.pickups ∧
    (s.shapeCore c l).buffer = s.buffer ∧ (s.shapeCore c l).delay = s.delay ∧
    (s.shapeCore c l).taps = s.taps ∧ (s.shapeCore c l).cue = s.cue ∧ (s.shapeCore c l).guards = s.guards ∧
    (s.shapeCore c l).hold = s.hold ∧ (s.shapeCore c l).events = s.events ∧
    (s.shapeCore c l).pattern = s.pattern ∧ (s.shapeCore c l).pending = s.pending := by
  simp [State.shapeCore]

/-- R133: guard parameters taken. -/
@[simp] theorem State.setGuards_frame (m : BitVec 32) (q : GuardParams) :
    (s.setGuards m q).pins = s.pins ∧ (s.setGuards m q).chain = s.chain ∧
    (s.setGuards m q).level = s.level ∧ (s.setGuards m q).pickups = s.pickups ∧
    (s.setGuards m q).buffer = s.buffer ∧ (s.setGuards m q).delay = s.delay ∧
    (s.setGuards m q).taps = s.taps ∧ (s.setGuards m q).cores = s.cores ∧
    (s.setGuards m q).scenes = s.scenes ∧ (s.setGuards m q).check = s.check ∧
    (s.setGuards m q).cue = s.cue ∧ (s.setGuards m q).hold = s.hold ∧ (s.setGuards m q).lane = s.lane ∧
    (s.setGuards m q).pattern = s.pattern ∧ (s.setGuards m q).pending = s.pending := by
  simp [State.setGuards]

end Sys2Proof.Machine
end

