-- ==== Sys2Proof/Laws/Lane.lean ====
section
/-!
SUPPORT. Everything the Command Unit and the Lane Controller can do, said once per operation (R156 to R165, R176,
R177).
-/

namespace Sys2Proof.Machine

/-! ## The command queue (R161) -/

/-- R161: BACKPRESSURE after an entry is added. -/
theorem pressureAdded_eq (n : Nat) (b : Bool) : pressureAdded n b = if 6 ≤ n then true else b := by
  unfold pressureAdded
  split <;> rfl

/-- R161: BACKPRESSURE after an entry is taken. -/
theorem pressureTaken_eq (n : Nat) (b : Bool) : pressureTaken n b = if n ≤ 3 then false else b := by
  unfold pressureTaken
  split <;> rfl

/-- R161: a command offered is added at the tail, or dropped with QUEUE_OVERRUN. -/
theorem State.offer_cases (s : State) (i : Fin 16) (k t : Byte) (p : List Byte) (b : Bool) :
    (s.lane.queue.length < 8 ∧
      s.offer i k t p b = { s with lane := { s.lane with
        queue := s.lane.queue ++ [⟨i, k, t, p, b, s.lane.lossPending⟩]
        lossPending := false
        backpressure := pressureAdded (s.lane.queue.length + 1) s.lane.backpressure } }) ∨
    (8 ≤ s.lane.queue.length ∧
      s.offer i k t p b = State.latch .queueOverrun { s with
        lane := { s.lane with lossPending := true }
        events := { s.events with dropped := countUp top16 s.events.dropped 1 } }) := by
  unfold State.offer
  split
  · exact .inl ⟨‹_›, rfl⟩
  · exact .inr ⟨by omega, rfl⟩

/-- An offer into an empty queue makes that command the queue. -/
theorem State.offer_empty_queue (s : State) (h : s.lane.queue = []) (i : Fin 16) (k t : Byte) (p : List Byte)
    (b : Bool) : (s.offer i k t p b).lane.queue = [⟨i, k, t, p, b, s.lane.lossPending⟩] := by
  rcases s.offer_cases i k t p b with ⟨_, e⟩ | ⟨hl, _⟩
  · rw [e]; simp [h]
  · simp [h] at hl

/-- An offer leaves the contexts, the read record, the reply queue and the transmission as they were. -/
theorem State.offer_lane (s : State) (i : Fin 16) (k t : Byte) (p : List Byte) (b : Bool) :
    (s.offer i k t p b).lane.contexts = s.lane.contexts ∧ (s.offer i k t p b).lane.record = s.lane.record ∧
    (s.offer i k t p b).lane.ready = s.lane.ready ∧ (s.offer i k t p b).lane.sent = s.lane.sent := by
  rcases s.offer_cases i k t p b with ⟨_, e⟩ | ⟨_, e⟩ <;> rw [e] <;> exact ⟨rfl, rfl, rfl, rfl⟩

/-! ## The reply queue (R163) -/

/-- Taking a command makes no reply entry FREE and uses none. -/
@[simp] theorem State.freeReplies_popQueue (s : State) (rest : List Entry) :
    (s.popQueue rest).freeReplies = s.freeReplies := rfl

/-- A reply that becomes READY uses one FREE entry. -/
theorem State.freeReplies_pushReply (s : State) (t : Ticket) (st : Status) (d : List Byte) :
    (s.pushReply t st d).freeReplies = s.freeReplies - 1 := by
  simp only [State.freeReplies, State.reservedReplies, State.pushReply_lane, State.pushReply_check,
    List.length_append, List.length_singleton]
  omega

/-! ## Verdicts (R162, R176, R177) -/

@[simp] theorem State.settle_refused (e : Entry) (s : State) (st : Status) :
    s.settle e (.refused st) = if e.broadcast then s.latch .commandRefused else s.pushReply e.ticket st [] :=
  rfl

@[simp] theorem State.settle_applied (e : Entry) (s t : State) : s.settle e (applied t) = t := rfl

@[simp] theorem State.settle_answered (e : Entry) (s : State) (d : List Byte) :
    s.settle e (answered s d) = if e.broadcast then s else s.pushReply e.ticket .done d := rfl

/-- R176 steps 2 and 3: the verdict of the condition and the length tests. -/
theorem judged_cases (inQuiet : Bool) (n : Nat) (judge : List Byte → State → Verdict) (e : Entry)
    (s : State) :
    (s.hold.condition = .quiet ∧ inQuiet = false ∧ judged inQuiet n judge e s = .refused .quiet) ∨
    ((s.hold.condition = .quiet → inQuiet = true) ∧ e.params.length ≠ n ∧
      judged inQuiet n judge e s = .refused .badLength) ∨
    ((s.hold.condition = .quiet → inQuiet = true) ∧ e.params.length = n ∧
      judged inQuiet n judge e s = judge e.params s) := by
  unfold judged
  by_cases hq : s.hold.condition = .quiet ∧ inQuiet = false
  · exact .inl ⟨hq.1, hq.2, if_pos hq⟩
  · have hq' : s.hold.condition = .quiet → inQuiet = true := fun h => by
      cases inQuiet
      · exact absurd ⟨h, rfl⟩ hq
      · rfl
    rw [if_neg hq]
    by_cases hl : e.params.length = n
    · exact .inr (.inr ⟨hq', hl, by rw [if_neg (not_not_intro hl)]⟩)
    · exact .inr (.inl ⟨hq', hl, if_pos hl⟩)

/-! ## Taking the oldest entry (R162) -/

/-- R162: the Command Unit takes the oldest entry of the row's kind when it may be taken. -/
theorem State.takeHead_taken {s : State} {e : Entry} {rest : List Entry} (h : s.lane.queue = e :: rest)
    (hk : s.mayTake e = true) (query : Bool) (judge : Entry → State → Verdict) :
    s.takeHead e.kind query judge = (s.popQueue rest).carryOut query judge e := by
  unfold State.takeHead
  rw [h]
  exact if_pos ⟨rfl, hk⟩

/-- R162: a taking either does not occur, or takes the oldest entry. -/
theorem State.takeHead_cases (s : State) (kind : Byte) (query : Bool) (judge : Entry → State → Verdict) :
    s.takeHead kind query judge = s ∨
    ∃ e rest, s.lane.queue = e :: rest ∧ e.kind = kind ∧ s.mayTake e = true ∧
      s.takeHead kind query judge = (s.popQueue rest).carryOut query judge e := by
  unfold State.takeHead
  split
  · exact .inl rfl
  · rename_i e rest h
    split
    · rename_i hk; exact .inr ⟨e, rest, h, hk.1, hk.2, rfl⟩
    · exact .inl rfl

/-- R162, R177: carrying out a command: a broadcast query is refused unread, else the verdict is settled. -/
theorem State.carryOut_cases (query : Bool) (judge : Entry → State → Verdict) (e : Entry) (s : State) :
    (query = true ∧ e.broadcast = true ∧ s.carryOut query judge e = s.latch .commandRefused) ∨
    (¬(query = true ∧ e.broadcast = true) ∧ s.carryOut query judge e = s.settle e (judge e s)) := by
  unfold State.carryOut
  cases query <;> cases e.broadcast <;> simp

/-- Log 3: all that a lane command row can do. -/
theorem State.laneCommand_cases (s : State) (kind : Byte) (query : Bool) (judge : Entry → State → Verdict)
    (t : Taking) :
    s.laneCommand kind query judge t = s ∨
    (∃ m, t = .arriving m ∧
      s.laneCommand kind query judge t = s.offer m.source kind m.tag m.params m.broadcast) ∨
    (∃ e rest, t = .queued ∧ s.lane.queue = e :: rest ∧ e.kind = kind ∧ s.mayTake e = true ∧
      s.laneCommand kind query judge t = (s.popQueue rest).carryOut query judge e) ∨
    (∃ m, t = .arriving m ∧ s.lane.queue = [] ∧
      s.laneCommand kind query judge t =
        ((s.offer m.source kind m.tag m.params m.broadcast).popQueue []).carryOut query judge
          ⟨m.source, kind, m.tag, m.params, m.broadcast, s.lane.lossPending⟩) := by
  unfold State.laneCommand
  split
  · exact .inl rfl
  · cases t with
    | queued =>
      rcases s.takeHead_cases kind query judge with h | ⟨e, rest, hq, hk, hm, h⟩
      · exact .inl h
      · exact .inr (.inr (.inl ⟨e, rest, rfl, hq, hk, hm, h⟩))
    | arriving m =>
      dsimp only
      split
      · rename_i hq
        have ho := s.offer_empty_queue hq m.source kind m.tag m.params m.broadcast
        rcases (s.offer m.source kind m.tag m.params m.broadcast).takeHead_cases kind query judge with
          h | ⟨e, rest, hq', _, _, h⟩
        · exact .inr (.inl ⟨m, rfl, h⟩)
        · obtain ⟨rfl, rfl⟩ := List.cons.inj (ho.symm.trans hq')
          exact .inr (.inr (.inr ⟨m, rfl, hq, h⟩))
      · exact .inr (.inl ⟨m, rfl, rfl⟩)

/-- R162: a lane command row takes the entry its premises describe. -/
theorem State.laneCommand_queued {s : State} {e : Entry} {rest : List Entry} (h : s.lane.queue = e :: rest)
    (hr : s.pins.rstLow = false) (hk : s.mayTake e = true) (query : Bool)
    (judge : Entry → State → Verdict) :
    s.laneCommand e.kind query judge .queued = (s.popQueue rest).carryOut query judge e := by
  unfold State.laneCommand
  rw [if_neg (by simp [hr])]
  exact State.takeHead_taken h hk query judge

/-! ## The part's own turns (R163 to R165) -/

/-- R163: a segment sent ends the reply, or the transmission goes on. -/
theorem State.advanceReply_cases (s : State) :
    (s.lane.ready = [] ∧ s.advanceReply = s) ∨
    (∃ r rest, s.lane.ready = r :: rest ∧ r.segments ≤ s.lane.sent + 1 ∧ s.advanceReply = s.dropReply) ∨
    (∃ r rest, s.lane.ready = r :: rest ∧ s.lane.sent + 1 < r.segments ∧
      s.advanceReply = { s with lane := { s.lane with sent := s.lane.sent + 1 } }) := by
  unfold State.advanceReply
  split
  · exact .inl ⟨‹_›, rfl⟩
  · rename_i r rest h
    split
    · exact .inr (.inl ⟨r, rest, h, ‹_›, rfl⟩)
    · exact .inr (.inr ⟨r, rest, h, by omega, rfl⟩)

/-- R160: a complete message is offered to the queue, ignored as a reply, or counted as bad. -/
theorem State.completeMessage_cases (s : State) (i : Fin 16) (o : List Byte) (n d : Nat) (b : Bool) :
    (at8 o 1 < 128 ∧ s.completeMessage i o n d b =
      s.offer i (o.getD 1 0) (o.getD 2 0) ((o.drop 5).take d) b) ∨
    (128 ≤ at8 o 1 ∧ s.completeMessage i o n d b = s) ∨
    (s.completeMessage i o n d b = State.latch .messageBad
      { s with events := { s.events with badMessages := countUp top32 s.events.badMessages 1 } }) := by
  unfold State.completeMessage
  split
  · split
    · exact .inl ⟨‹_›, rfl⟩
    · exact .inr (.inl ⟨by omega, rfl⟩)
  · exact .inr (.inr rfl)

end Sys2Proof.Machine
end

