-- ==== Sys2Proof/Laws/Units.lean ====
section
/-!
SUPPORT. The small operations of the blocks, each with one lemma that says what it can give: ramps and clamps, ports,
turnaround, event words, gates and guards.
-/

namespace Sys2Proof.Machine

/-! ## Numbers -/

/-- R25, R50: a ramp reaches its goal at once, or moves toward it by its rate. -/
theorem ramp_cases (x goal rate : Nat) :
    (rate = 0 ∧ ramp x goal rate = goal) ∨
    (0 < rate ∧ goal < x ∧ ramp x goal rate = max goal (x - rate)) ∨
    (0 < rate ∧ x ≤ goal ∧ ramp x goal rate = min goal (x + rate)) := by
  unfold ramp
  split
  · exact .inl ⟨‹_›, rfl⟩
  · split
    · exact .inr (.inl ⟨by omega, ‹_›, rfl⟩)
    · exact .inr (.inr ⟨by omega, by omega, rfl⟩)

/-- A ramp stays below any bound of its ends. -/
theorem ramp_le {x goal bound : Nat} (rate : Nat) (hx : x ≤ bound) (hg : goal ≤ bound) :
    ramp x goal rate ≤ bound := by
  rcases ramp_cases x goal rate with ⟨_, h⟩ | ⟨_, _, h⟩ | ⟨_, _, h⟩ <;> rw [h] <;> omega

/-- R20: a clamped code is a code. -/
theorem clampCode_le (x : Nat) : clampCode x ≤ 1024 := Nat.min_le_left _ _

/-- A clamped number lies in its range. -/
theorem clamp_mem {lo hi : Nat} (h : lo ≤ hi) (x : Nat) : lo ≤ clamp lo hi x ∧ clamp lo hi x ≤ hi := by
  unfold clamp
  omega

/-- R188: a counter keeps within its greatest value. -/
theorem countUp_le (top c n : Nat) : countUp top c n ≤ top := Nat.min_le_left _ _

/-- R188: a counter within its greatest value is never lowered. -/
theorem le_countUp {top c : Nat} (h : c ≤ top) (n : Nat) : c ≤ countUp top c n := by
  unfold countUp
  omega

/-- R24: what each phase says of current and target. -/
theorem phaseOf_spec (c t : Nat) :
    (phaseOf c t = .steady ↔ c = t) ∧ (phaseOf c t = .rising ↔ t < c) ∧ (phaseOf c t = .falling ↔ c < t) := by
  unfold phaseOf
  split
  · simp; omega
  · split
    · simp; omega
    · simp; omega

/-- 00_scope 6.2: a saturated value fits 24 bits. -/
theorem saturate24_mem (x : Int) : -8388608 ≤ saturate24 x ∧ saturate24 x ≤ 8388607 := by
  unfold saturate24
  omega

/-! ## Event words (R186) -/

/-- R186: the bits of the events are below 23. -/
theorem Event.bit_lt (e : Event) : e.bit < 23 := by cases e <;> decide

/-- R186: no two events share a bit. -/
theorem Event.bit_injective (e f : Event) (h : e.bit = f.bit) : e = f := by
  cases e <;> cases f <;> first | rfl | (exact absurd h (by decide))

/-- R186: an event's word has its own bit alone. -/
theorem Event.word_bit (e f : Event) : e.word.getLsbD f.bit = decide (e = f) := by
  cases e <;> cases f <;> decide

/-- R187: setting a latch latches that event and keeps the others. -/
theorem Events.latched_set (ev : Events) (e f : Event) :
    (ev.set e).latched f = (ev.latched f || decide (e = f)) := by
  simp [Events.latched, Events.set, Event.word_bit]

/-- R187: a latch set leaves masks and counters. -/
theorem Events.set_eq (ev : Events) (e : Event) : ev.set e = { ev with latch := ev.latch ||| e.word } := rfl

/-! ## Ports and turnaround (R5, R11, R13) -/

/-- R5: what a good frame does to a receive side. -/
theorem PortRx.judgeGood_cases (g : Nat) (p : PortRx) :
    (p.state = .down ∧ p.judgeGood g = p) ∨
    (p.state = .seeking ∧ g ≤ min 255 (p.good + 1) ∧ p.judgeGood g = ⟨.locked, min 255 (p.good + 1), 0⟩) ∨
    (p.state = .seeking ∧ min 255 (p.good + 1) < g ∧ p.judgeGood g = ⟨.seeking, min 255 (p.good + 1), 0⟩) ∨
    (p.state = .locked ∧ p.judgeGood g = ⟨.locked, min 255 (p.good + 1), 0⟩) := by
  unfold PortRx.judgeGood
  split
  · rename_i h; exact .inl ⟨h, rfl⟩
  · rename_i h
    split
    · exact .inr (.inl ⟨h, ‹_›, rfl⟩)
    · exact .inr (.inr (.inl ⟨h, by omega, rfl⟩))
  · rename_i h; exact .inr (.inr (.inr ⟨h, rfl⟩))

/-- R5: what a bad frame does to a receive side. -/
theorem PortRx.judgeBad_cases (b : Nat) (p : PortRx) :
    (p.state = .down ∧ p.judgeBad b = p) ∨
    (p.state = .seeking ∧ p.judgeBad b = ⟨.seeking, 0, min 64 (p.bad + 1)⟩) ∨
    (p.state = .locked ∧ b ≤ min 64 (p.bad + 1) ∧ p.judgeBad b = ⟨.seeking, 0, 0⟩) ∨
    (p.state = .locked ∧ min 64 (p.bad + 1) < b ∧ p.judgeBad b = ⟨.locked, 0, min 64 (p.bad + 1)⟩) := by
  unfold PortRx.judgeBad
  split
  · rename_i h; exact .inl ⟨h, rfl⟩
  · rename_i h; exact .inr (.inl ⟨h, rfl⟩)
  · rename_i h
    split
    · exact .inr (.inr (.inl ⟨h, ‹_›, rfl⟩))
    · exact .inr (.inr (.inr ⟨h, by omega, rfl⟩))

/-- R11, R13, R14: what a settling of the turnaround state does to the Chain Interface. -/
theorem Chain.settleTurnaround_cases (c : Chain) :
    (turnaroundOf c.leader c.portU.state c.portD.state = c.turnaround ∧ c.settleTurnaround = c) ∨
    (c.turnaround = .chainEnd ∧ turnaroundOf c.leader c.portU.state c.portD.state = .through ∧
      c.settleTurnaround = { c with turnaround := .through, discard := true, switchNo := c.nextNumber,
                                    switchOpen := true, sinceSwitch := 0 }) ∨
    (c.turnaround = .detached ∧ turnaroundOf c.leader c.portU.state c.portD.state = .through ∧
      c.settleTurnaround = { c with turnaround := .through }) ∨
    (turnaroundOf c.leader c.portU.state c.portD.state ≠ .through ∧
      c.settleTurnaround = { c with
        turnaround := turnaroundOf c.leader c.portU.state c.portD.state, discard := false,
        switchOpen := false }) := by
  unfold Chain.settleTurnaround
  dsimp only
  split
  · exact .inl ⟨‹_›, rfl⟩
  · rename_i hne
    split
    · rename_i h; exact .inr (.inl ⟨h.1, h.2, by rw [h.2]⟩)
    · rename_i hn
      split
      · rename_i ht
        refine .inr (.inr (.inl ⟨?_, ht, by rw [ht]⟩))
        cases hc : c.turnaround
        · exact absurd ⟨hc, ht⟩ hn
        · exact absurd (ht.trans hc.symm) hne
        · rfl
      · exact .inr (.inr (.inr ⟨‹_›, rfl⟩))

/-- R13: a handled frame settles t after a switch; it leaves a clear mark alone, and counts toward 16 under a set
one. -/
theorem Chain.countHandled_cases (n : FrameNo) (c : Chain) :
    (c.discard = false ∧ c.countHandled n = { c with
      switchNo := if c.switchOpen then n else c.switchNo
      switchOpen := false }) ∨
    (c.discard = true ∧ c.countHandled n = { c with
      switchNo := if c.switchOpen then n else c.switchNo
      switchOpen := false
      sinceSwitch := min 16 (c.sinceSwitch + 1)
      discard := decide (c.sinceSwitch + 1 < 16) }) := by
  cases h : c.discard
  · exact .inl ⟨rfl, by simp [Chain.countHandled, h]⟩
  · exact .inr ⟨rfl, by simp [Chain.countHandled, h]⟩

/-! ## Gates (R48, R49) -/

/-- R48, R49: moving the gate changes its state and its hang count alone. -/
theorem Pickup.moveGate_frame (p : Pickup) :
    p.moveGate = { p with gate := p.moveGate.gate, hangCount := p.moveGate.hangCount } := by
  unfold Pickup.moveGate
  split
  · split <;> rfl
  · split
    · rfl
    · split <;> rfl
  · split
    · rfl
    · split <;> rfl

/-- R50: moving the level changes the level alone. -/
theorem Pickup.moveLevel_frame (p : Pickup) : p.moveLevel = { p with level := p.moveLevel.level } := by
  unfold Pickup.moveLevel
  split <;> rfl

/-! ## Guards (R135 to R140) -/

/-- R135: moving the state changes the working items of CUT and RECOVER alone. -/
theorem Guard.moveState_frame (g : Guard) :
    g.moveState = { g with
      state := g.moveState.state, trim := g.moveState.trim, timer := g.moveState.timer,
      count := g.moveState.count } := by
  unfold Guard.moveState
  split
  · rfl
  · unfold Guard.cutTick Guard.holdExpired
    split
    · split <;> rfl
    · rfl
  · unfold Guard.recoverTick Guard.recoveryStep
    split
    · split <;> rfl
    · rfl

/-- R135: a ramp tick never touches a guard's parameters. -/
theorem Guard.tick_parameters (moved : Bool) (p : Nat) (g : Guard) :
    (g.tick moved p).enable = g.enable ∧ (g.tick moved p).floorCode = g.floorCode ∧
    (g.tick moved p).rise = g.rise ∧ (g.tick moved p).cutStep = g.cutStep ∧
    (g.tick moved p).limit = g.limit ∧ (g.tick moved p).quietHold = g.quietHold ∧
    (g.tick moved p).interval = g.interval ∧ (g.tick moved p).escalate = g.escalate := by
  unfold Guard.tick
  split
  · dsimp only
    split
    · simp [Guard.cut]
    · rw [Guard.moveState_frame]; simp
  · simp

end Sys2Proof.Machine
end

