-- ==== Sys2Proof/Laws/Step.lean ====
section
/-!
SUPPORT. What a step can do, said once.
-/

namespace Sys2Proof.Machine

/-- A step that answers a next state idled on an empty queue, or ran the front command on the queue's rest. -/
theorem step_next_cases {s t : State} (h : step s = .next t) :
    (s.pending = [] ∧ t = s) ∨
    ∃ c rest, s.pending = c :: rest ∧ exec c { s with pending := rest } = .next t := by
  unfold step at h
  split at h
  · rename_i hq; exact .inl ⟨hq, (Host.Outcome.next.inj h).symm⟩
  · rename_i c rest hq; exact .inr ⟨c, rest, hq, h⟩

/-- A law that every command keeps, and that does not read the queue of waiting commands, is kept by every step. -/
theorem step_keeps_of_exec_keeps {P : State → Prop}
    (hq : ∀ (s : State) (q : List Instr), P s → P { s with pending := q })
    (he : ∀ (c : Instr) (s t : State), P s → exec c s = .next t → P t) {s t : State} (hs : P s)
    (h : step s = .next t) : P t := by
  rcases step_next_cases h with ⟨_, rfl⟩ | ⟨c, rest, _, hc⟩
  · exact hs
  · exact he c _ _ (hq s rest hs) hc

/-- R154: what a row guarded by RST_N gives. -/
theorem State.unlessHeld_cases (s t : State) :
    (s.pins.rstLow = true ∧ s.unlessHeld t = s) ∨ (s.pins.rstLow = false ∧ s.unlessHeld t = t) := by
  unfold State.unlessHeld
  cases s.pins.rstLow <;> simp

/-- R18: what an event of a computation gives. -/
theorem State.whileComputing_cases (s t : State) :
    (s.computes = false ∧ s.whileComputing t = s) ∨ (s.computes = true ∧ s.whileComputing t = t) := by
  unfold State.whileComputing
  cases s.computes <;> simp

end Sys2Proof.Machine
end

