-- ==== Sys2Proof/Laws/Commands.lean ====
section
/-!
SUPPORT. What a taking of a lane command comes to, for an entry as `State.Takes` describes it.
-/

namespace Sys2Proof.Machine

variable {s : State} {e : Entry} {rest : List Entry} {kind : Byte} {n : Nat}

/-- R162: the row of the entry's kind takes it. -/
theorem State.Takes.laneCommand (h : s.Takes e rest kind n) (query : Bool)
    (judge : Entry → State → Verdict) :
    s.laneCommand kind query judge .queued = (s.popQueue rest).carryOut query judge e := by
  obtain ⟨hr, hq, hk, -, hf⟩ := h
  subst hk
  refine State.laneCommand_queued hq hr ?_ query judge
  rcases hf with hf | hf <;> simp [State.mayTake, hf]

/-- R175: a command that is no query is carried out, broadcast or not. -/
theorem State.carryOut_posted (judge : Entry → State → Verdict) (e : Entry) (s : State) :
    s.carryOut false judge e = s.settle e (judge e s) := by
  simp [State.carryOut]

/-- R162: a unicast query is carried out. -/
theorem State.carryOut_unicast (query : Bool) (judge : Entry → State → Verdict) {e : Entry}
    (h : e.broadcast = false) (s : State) : s.carryOut query judge e = s.settle e (judge e s) := by
  simp [State.carryOut, h]

/-- R176: outside QUIET a command of the right length is judged by its own tests. -/
theorem judged_ready {inQuiet : Bool} {judge : List Byte → State → Verdict}
    (hc : s.hold.condition ≠ .quiet) (hl : e.params.length = n) :
    judged inQuiet n judge e s = judge e.params s := by
  simp [judged, hc, hl]

/-- R176: a command admitted in QUIET is judged by its own tests in every condition. -/
theorem judged_admitted {judge : List Byte → State → Verdict} (hl : e.params.length = n) :
    judged true n judge e s = judge e.params s := by
  simp [judged, hl]

/-- R177: a refused verdict settled is the refusal. -/
theorem State.settle_refusal (e : Entry) (st : Status) (s : State) :
    s.settle e (.refused st) = s.refusal e st := rfl

/-- R176: an index parameter in range. -/
theorem index?_of_lt {n x : Nat} (h : x < n) : index? n x = some ⟨x, h⟩ := by simp [index?, h]

/-- R176: an index parameter out of range. -/
theorem index?_of_ge {n x : Nat} (h : n ≤ x) : index? n x = none := by
  simp [index?, Nat.not_lt.2 h]

/-- R176: an index parameter that is the number of `i`. -/
theorem index?_val {n x : Nat} {i : Fin n} (h : x = i.val) : index? n x = some i := by
  subst h; simp [index?]

/-- R176: a slot code. -/
theorem slotOrNone?_eq (x : Nat) :
    slotOrNone? x = if x = 255 then some none else if h : x < 128 then some (some ⟨x, h⟩) else none := by
  unfold slotOrNone? index?
  split
  · rfl
  · split <;> rfl

end Sys2Proof.Machine
end

