-- ==== Sys2Proof/Laws/Compute.lean ====
section
/-!
SUPPORT. What a computation depends on: the pins and the blocks it moves, and neither the chain, the lane, the events,
the pattern unit nor the model's queue. `State.seen` keeps what it depends on.
-/

namespace Sys2Proof.Machine

/-- The state with everything a computation does not look at set to its reset value. -/
def State.seen (s : State) : State :=
  { s with
    chain := State.reset.chain, lane := State.reset.lane, events := State.reset.events
    pattern := State.reset.pattern, pending := [] }

@[simp] theorem State.seen_seen (s : State) : s.seen.seen = s.seen := rfl

@[simp] theorem State.seen_latchIf (b : Bool) (e : Event) (s : State) : (s.latchIf b e).seen = s.seen := by
  cases b <;> rfl

@[simp] theorem State.seen_latch (e : Event) (s : State) : (s.latch e).seen = s.seen := rfl

@[simp] theorem State.seen_pushReply? (t : Option Ticket) (st : Status) (data : List Byte) (s : State) :
    (s.pushReply? t st data).seen = s.seen := by
  cases t <;> rfl

/-- R121, R126: the due test looks at the blocks alone. -/
theorem State.seen_testCue (k : FrameNo) (s : State) : (s.seen.testCue k).seen = (s.testCue k).seen := by
  have hf : s.seen.fires k = s.fires k := rfl
  have ht : s.seen.cue = s.cue := rfl
  have fired : ∀ t, (s.seen.fireTarget t k).seen = (s.fireTarget t k).seen := by
    intro t
    have he : s.seen.cue.fireEvent k = s.cue.fireEvent k := rfl
    unfold State.fireTarget
    simp only [he]
    cases s.cue.fireEvent k <;> rfl
  unfold State.testCue State.fire
  simp only [hf, ht]
  split
  · split
    · exact fired _
    · rfl
  · split <;> rfl

theorem State.seen_formHold (s : State) : s.seen.formHold.seen = s.formHold.seen := by
  simp only [State.formHold, State.seen_latchIf]
  rfl

theorem State.seen_tickFade (b : Bool) (s : State) : (s.seen.tickFade b).seen = (s.tickFade b).seen := by
  have hc : s.seen.cue = s.cue := rfl
  unfold State.tickFade
  simp only [hc]
  split
  · split <;> rfl
  · rfl

/-- R23, R147: the ramp tick looks at the blocks alone. -/
theorem State.seen_rampTick (b : Bool) (s : State) : (s.seen.rampTick b).seen = (s.rampTick b).seen := by
  have gates : ∀ t : State, (t.seen.tickGates).seen = t.tickGates.seen := fun _ => rfl
  have level : s.seen.tickLevel.seen = s.tickLevel.seen := rfl
  have wander : ∀ t : State, (t.seen.tickWander b).seen = (t.tickWander b).seen := fun _ => rfl
  have gains : ∀ t : State, t.seen.tickGains.seen = t.tickGains.seen := fun _ => rfl
  unfold State.rampTick
  rw [← gains, ← wander, ← State.seen_tickFade, ← gates, ← State.seen_formHold, level, State.seen_formHold, gates,
    State.seen_tickFade, wander, gains]

theorem State.seen_beginComputation (k : FrameNo) (s : State) :
    (s.seen.beginComputation k).seen = (s.beginComputation k).seen := by
  have hs : s.seen.sampleHold = s.sampleHold.seen := rfl
  have hf : s.sampleHold.seen.fires k = s.sampleHold.fires k := rfl
  unfold State.beginComputation
  simp only [hs, hf]
  split
  · rw [← State.seen_rampTick, State.seen_testCue, State.seen_rampTick]
  · exact State.seen_testCue _ _

theorem State.seen_runPickups (k : FrameNo) (s : State) : (s.seen.runPickups k).seen = (s.runPickups k).seen := by
  simp only [State.runPickups, State.seen_latchIf]
  rfl

theorem State.seen_advanceCheck (s : State) : s.seen.advanceCheck.seen = s.advanceCheck.seen := by
  have hc : s.seen.check = s.check := rfl
  have he : ∀ c : CheckRun, examine s.seen.cores (s.seen.scenes.get c.scene) c.next =
      examine s.cores (s.scenes.get c.scene) c.next := fun _ => rfl
  unfold State.advanceCheck
  simp only [hc, he]
  cases s.check with
  | none => rfl
  | some c =>
    dsimp only
    cases examine s.cores (s.scenes.get c.scene) c.next with
    | failed i r => simp only [State.endCheckFail, State.seen_pushReply?]; rfl
    | passed => simp only [State.endCheckPass, State.seen_pushReply?]; rfl
    | goesOn n => rfl

theorem State.seen_runCores (w : Option Nat) (inj : Fin 4 → Fin 8 → Int) (s : State) :
    (s.seen.runCores w inj).seen = (s.runCores w inj).seen := by
  simp only [State.runCores, State.seen_latchIf]
  rfl

theorem State.seen_countFeedClips (n : Nat) (s : State) : (s.countFeedClips n).seen = s.seen := by
  simp only [State.countFeedClips, State.seen_latchIf]
  rfl

/-- The values a computation forms from the blocks are the same in states whose blocks are. -/
theorem State.formed_of_seen {s t : State} (h : s.seen = t.seen) (k : FrameNo) :
    s.fadeWeight = t.fadeWeight ∧ s.injection k = t.injection k ∧ s.feedOuts k = t.feedOuts k := by
  have hs : s.fadeWeight = s.seen.fadeWeight ∧ s.injection k = s.seen.injection k ∧
      s.feedOuts k = s.seen.feedOuts k := ⟨rfl, rfl, rfl⟩
  have ht : t.seen.fadeWeight = t.fadeWeight ∧ t.seen.injection k = t.injection k ∧
      t.seen.feedOuts k = t.feedOuts k := ⟨rfl, rfl, rfl⟩
  rw [hs.1, hs.2.1, hs.2.2, h]
  exact ht

/-- R46, R65, R82, R108: the samples look at the blocks alone. -/
theorem State.seen_runSamples (k : FrameNo) (s : State) : (s.seen.runSamples k).seen = (s.runSamples k).seen := by
  have hp := State.seen_runPickups k s
  obtain ⟨hw, hi, ho⟩ := State.formed_of_seen hp k
  have peaks : ∀ (outs : Bank 32 Sample) (t : State), (t.seen.recordPeaks outs).seen = (t.recordPeaks outs).seen :=
    fun _ _ => rfl
  have rest : ∀ (outs : Bank 32 Sample) (w : Option Nat) (inj : Fin 4 → Fin 8 → Int) (m n : Nat) (p q : State),
      p.seen = q.seen →
      (State.recordPeaks outs (State.runCores w inj (State.advanceCheck (p.countFeedClips m)))).seen =
        (State.recordPeaks outs (State.runCores w inj (State.advanceCheck (q.countFeedClips n)))).seen := by
    intro outs w inj m n p q h
    rw [← peaks, ← State.seen_runCores, ← State.seen_advanceCheck, State.seen_countFeedClips, h,
      ← State.seen_countFeedClips n q, State.seen_advanceCheck, State.seen_runCores, peaks]
  unfold State.runSamples
  simp only [hw, hi, ho]
  exact rest _ _ _ _ _ _ _ hp

theorem State.seen_tickGuard (moved : Fin 32 → Bool) (s : State) :
    (s.seen.tickGuard moved).seen = (s.tickGuard moved).seen := by
  simp only [State.tickGuard, State.seen_latchIf]
  rfl

/-- R18: a computation looks at the pins and the blocks it moves alone. -/
theorem State.seen_compute (k : FrameNo) (s : State) : (s.seen.compute k).seen = (s.compute k).seen := by
  have hb := State.seen_beginComputation k s
  have hl : (s.seen.beginComputation k).level = (s.beginComputation k).level := (congrArg State.level hb :)
  have hs : s.seen.level = s.level := rfl
  unfold State.compute
  simp only [hl, hs]
  split
  · rw [← State.seen_tickGuard, ← State.seen_runSamples, hb, State.seen_runSamples, State.seen_tickGuard]
  · rw [← State.seen_runSamples, hb, State.seen_runSamples]

/-- States that agree in what is seen have the same blocks. -/
theorem State.sameBlocks_of_seen {s t : State} (h : s.seen = t.seen) : s.SameBlocks t :=
  ⟨(congrArg State.level h.symm :), (congrArg State.pickups h.symm :), (congrArg State.delay h.symm :),
    (congrArg State.taps h.symm :), (congrArg State.cores h.symm :), (congrArg State.scenes h.symm :),
    (congrArg State.check h.symm :), (congrArg State.cue h.symm :), (congrArg State.guards h.symm :),
    (congrArg State.hold h.symm :)⟩

/-- R18: computations of states whose blocks and pins agree leave the same blocks. -/
theorem State.compute_sameBlocks {s t : State} (h : s.seen = t.seen) (k : FrameNo) :
    (s.compute k).SameBlocks (t.compute k) :=
  State.sameBlocks_of_seen (by rw [← State.seen_compute, h, State.seen_compute])

/-- R34: computations of states whose blocks and pins agree give the same feed values. -/
theorem State.computeOuts_of_seen {s t : State} (h : s.seen = t.seen) (k : FrameNo) :
    s.computeOuts k = t.computeOuts k := by
  have hb : ((s.beginComputation k).runPickups k).seen = ((t.beginComputation k).runPickups k).seen := by
    rw [← State.seen_runPickups, ← State.seen_beginComputation, h, State.seen_beginComputation, State.seen_runPickups]
  exact (State.formed_of_seen hb k).2.2

end Sys2Proof.Machine
end

