-- ==== Sys2Proof/Laws/ComputeEvents.lean ====
section
/-!
SUPPORT. The events a computation leaves: they follow from the events it begins with and from what it looks at.
`State.heard` keeps `State.seen` and the events.
-/

namespace Sys2Proof.Machine

/-- The state with everything a computation does not look at, but for its events, set to its reset value. -/
def State.heard (s : State) : State := { s.seen with events := s.events }

theorem State.heard_latchIf (b : Bool) (e : Event) (s : State) : (s.latchIf b e).heard = s.heard.latchIf b e := by
  cases b <;> rfl

theorem State.heard_testCue (k : FrameNo) (s : State) : (s.heard.testCue k).heard = (s.testCue k).heard := by
  have hf : s.heard.fires k = s.fires k := rfl
  have ht : s.heard.cue = s.cue := rfl
  have fired : ∀ t, (s.heard.fireTarget t k).heard = (s.fireTarget t k).heard := by
    intro t
    have he : s.heard.cue.fireEvent k = s.cue.fireEvent k := rfl
    unfold State.fireTarget
    simp only [he]
    cases s.cue.fireEvent k <;> rfl
  unfold State.testCue State.fire
  simp only [hf, ht]
  split
  · split
    · exact fired _
    · rfl
  · split <;> rfl

theorem State.heard_formHold (s : State) : s.heard.formHold.heard = s.formHold.heard := by
  simp only [State.formHold, State.heard_latchIf]
  rfl

theorem State.heard_tickFade (b : Bool) (s : State) : (s.heard.tickFade b).heard = (s.tickFade b).heard := by
  have hc : s.heard.cue = s.cue := rfl
  unfold State.tickFade
  simp only [hc]
  split
  · split <;> rfl
  · rfl

theorem State.heard_rampTick (b : Bool) (s : State) : (s.heard.rampTick b).heard = (s.rampTick b).heard := by
  have gates : ∀ t : State, (t.heard.tickGates).heard = t.tickGates.heard := fun _ => rfl
  have level : s.heard.tickLevel.heard = s.tickLevel.heard := rfl
  have wander : ∀ t : State, (t.heard.tickWander b).heard = (t.tickWander b).heard := fun _ => rfl
  have gains : ∀ t : State, t.heard.tickGains.heard = t.tickGains.heard := fun _ => rfl
  unfold State.rampTick
  rw [← gains, ← wander, ← State.heard_tickFade, ← gates, ← State.heard_formHold, level, State.heard_formHold, gates,
    State.heard_tickFade, wander, gains]

theorem State.heard_beginComputation (k : FrameNo) (s : State) :
    (s.heard.beginComputation k).heard = (s.beginComputation k).heard := by
  have hs : s.heard.sampleHold = s.sampleHold.heard := rfl
  have hf : s.sampleHold.heard.fires k = s.sampleHold.fires k := rfl
  unfold State.beginComputation
  simp only [hs, hf]
  split
  · rw [← State.heard_rampTick, State.heard_testCue, State.heard_rampTick]
  · exact State.heard_testCue _ _

theorem State.heard_runPickups (k : FrameNo) (s : State) : (s.heard.runPickups k).heard = (s.runPickups k).heard := by
  simp only [State.runPickups, State.heard_latchIf]
  rfl

theorem State.heard_pushReply? (t : Option Ticket) (st : Status) (data : List Byte) (s : State) :
    (s.pushReply? t st data).heard = s.heard := by
  cases t <;> rfl

theorem State.heard_advanceCheck (s : State) : s.heard.advanceCheck.heard = s.advanceCheck.heard := by
  have hc : s.heard.check = s.check := rfl
  have he : ∀ c : CheckRun, examine s.heard.cores (s.heard.scenes.get c.scene) c.next =
      examine s.cores (s.scenes.get c.scene) c.next := fun _ => rfl
  unfold State.advanceCheck
  simp only [hc, he]
  cases s.check with
  | none => rfl
  | some c =>
    dsimp only
    cases examine s.cores (s.scenes.get c.scene) c.next with
    | failed i r => simp only [State.endCheckFail, State.heard_pushReply?]; rfl
    | passed => simp only [State.endCheckPass, State.heard_pushReply?]; rfl
    | goesOn n => rfl

theorem State.heard_runCores (w : Option Nat) (inj : Fin 4 → Fin 8 → Int) (s : State) :
    (s.heard.runCores w inj).heard = (s.runCores w inj).heard := by
  simp only [State.runCores, State.heard_latchIf]
  rfl

theorem State.heard_countFeedClips (n : Nat) (s : State) :
    (s.heard.countFeedClips n).heard = (s.countFeedClips n).heard := by
  simp only [State.countFeedClips, State.heard_latchIf]
  rfl

theorem State.heard_tickGuard (moved : Fin 32 → Bool) (s : State) :
    (s.heard.tickGuard moved).heard = (s.tickGuard moved).heard := by
  simp only [State.tickGuard, State.heard_latchIf]
  rfl

theorem State.heard_runSamples (k : FrameNo) (s : State) : (s.heard.runSamples k).heard = (s.runSamples k).heard := by
  have hp := State.heard_runPickups k s
  have formed : ∀ t : State, t.fadeWeight = t.heard.fadeWeight ∧ t.injection k = t.heard.injection k ∧
      t.feedOuts k = t.heard.feedOuts k ∧ t.feedClips k = t.heard.feedClips k := fun _ => ⟨rfl, rfl, rfl, rfl⟩
  have peaks : ∀ (outs : Bank 32 Sample) (t : State), (t.heard.recordPeaks outs).heard = (t.recordPeaks outs).heard :=
    fun _ _ => rfl
  obtain ⟨a1, a2, a3, a4⟩ := formed (s.heard.runPickups k)
  obtain ⟨b1, b2, b3, b4⟩ := formed (s.runPickups k)
  unfold State.runSamples
  simp only [a1, a2, a3, a4, b1, b2, b3, b4, hp]
  rw [← peaks, ← State.heard_runCores, ← State.heard_advanceCheck, ← State.heard_countFeedClips, hp,
    State.heard_countFeedClips, State.heard_advanceCheck, State.heard_runCores, peaks]

/-- R18: a computation looks at the pins, the blocks it moves and the events alone. -/
theorem State.heard_compute (k : FrameNo) (s : State) : (s.heard.compute k).heard = (s.compute k).heard := by
  have hb := State.heard_beginComputation k s
  have hl : (s.heard.beginComputation k).level = (s.beginComputation k).level := (congrArg State.level hb :)
  have hs : s.heard.level = s.level := rfl
  unfold State.compute
  simp only [hl, hs]
  split
  · rw [← State.heard_tickGuard, ← State.heard_runSamples, hb, State.heard_runSamples, State.heard_tickGuard]
  · rw [← State.heard_runSamples, hb, State.heard_runSamples]

/-- R18, R187: computations of states whose blocks, pins and events agree leave the same events. -/
theorem State.compute_events {s t : State} (h : s.seen = t.seen) (he : s.events = t.events) (k : FrameNo) :
    (s.compute k).events = (t.compute k).events := by
  have hh : s.heard = t.heard := by rw [State.heard, State.heard, h, he]
  have := congrArg State.events (State.heard_compute k s)
  rw [hh, State.heard_compute] at this
  exact this.symm

end Sys2Proof.Machine
end

