-- ==== Sys2Proof/WellFormed.lean ====
section
/-!
DEFINITION. Which commands are well formed: a frame has its 415 octets (R168), a message at most 441
parameter octets (R157), and BAD_KIND_COMMAND a kind that R175 does not list.
Addresses, ports, pickups, feeds and cores are in range by their types.
-/

namespace Sys2Proof

/-- R157: the parameter length of a message is 0..441. -/
def Taking.wf : Taking → Bool
  | .queued => true
  | .arriving m => decide (m.params.length ≤ 441)

/-- R168: a frame is 415 octets. -/
def frameSized (octets : List Byte) : Bool := octets.length == 415

/-- A well-formed command. -/
def Instr.wf : Instr → Bool
  | .powerOnReset _ _ => true
  | .lineActivityAppears _ => true
  | .lineActivityLost _ => true
  | .frameOriginate _ => true
  | .outboundFrameReceive octets _ => frameSized octets
  | .syncMissingPeriod _ _ => true
  | .returnFrameReceive octets => frameSized octets
  | .discardMarkExpire => true
  | .coreShaped _ => true
  | .checkPass => true
  | .checkFail => true
  | .cueFire _ => true
  | .gateHangExpire _ => true
  | .crossfadeEnd => true
  | .quietHoldExpire _ => true
  | .recoveryStep _ => true
  | .badKindCommand kind t => Machine.kindBad kind && t.wf
  | .identify t => t.wf
  | .nodeReset t => t.wf
  | .quiet t => t.wf
  | .wake t => t.wf
  | .eventsRead t => t.wf
  | .eventsClear t => t.wf
  | .eventsMask t => t.wf
  | .chainRead t => t.wf
  | .chainSet t => t.wf
  | .patternSet t => t.wf
  | .patternRead t => t.wf
  | .pickupSet t => t.wf
  | .pickupRead t => t.wf
  | .feedSet t => t.wf
  | .feedRead t => t.wf
  | .groupSet t => t.wf
  | .groupRead t => t.wf
  | .coreShape t => t.wf
  | .coreRead t => t.wf
  | .sceneHead t => t.wf
  | .tapWrite t => t.wf
  | .tapRead t => t.wf
  | .sceneClear t => t.wf
  | .sceneCheck t => t.wf
  | .sceneRead t => t.wf
  | .cue t => t.wf
  | .cueCancel t => t.wf
  | .cueRead t => t.wf
  | .guardSet t => t.wf
  | .guardRead t => t.wf
  | .hold t => t.wf
  | .resume t => t.wf
  | .powerOnResetHeld => true

end Sys2Proof
end

