-- ==== Sys2Proof/Tests/Slice0.lean ====
section
/-!
SUPPORT. The model's own tests. `test_` theorems check one fact against a figure of the spec (named in the comment
above); `witness_` theorems show that the premises of a statement of Obligations.lean, or of one of its clauses, are
met together by a concrete state, with its bounds at their ends where a clause has bounds.
-/

namespace Sys2Proof.Tests

set_option Elab.async false

open Sys2Proof.Machine

/-! ## Helpers -/

/-- The state a command leaves. -/
def after (c : Instr) (s : State) : State :=
  match exec c s with
  | .next t => t
  | .fault _ => s
  | .refused _ => s

/-- A leader after power-on reset, at address 0. -/
def leader : State := State.powerOn true 0

/-- A member at address 3, in END, RUNNING and audible, whose next frame is 100. -/
def member : State :=
  let s := State.powerOn false 3
  { s with
    chain := { s.chain with portU := ⟨.locked, 40, 0⟩, syncU := true, turnaround := .chainEnd, expected := 100 }
    hold := ⟨false, false, false, false, false, .running, .running⟩
    level := { s.level with hold := 0 } }

/-- The member in THROUGH. -/
def inner : State :=
  { member with chain := { member.chain with portD := ⟨.locked, 40, 0⟩, syncD := true, turnaround := .through } }

/-- The member in QUIET. -/
def quietMember : State :=
  { member with
    hold := ⟨false, false, false, true, false, .held, .quiet⟩
    level := { member.level with hold := 1024 } }

/-- A member whose Port U is not LOCKED, and has found a sync pattern. -/
def isolated (portU : PortRx) : State :=
  let s := State.powerOn false 3
  { s with chain := { s.chain with portU := portU, syncU := true } }

/-- A unicast command from node 5, with tag 0x77. -/
def entry (kind : Byte) (params : List Byte) : Entry := ⟨5, kind, 0x77, params, false, false⟩

/-- The same command, broadcast. -/
def broadcast (kind : Byte) (params : List Byte) : Entry := ⟨5, kind, 0x77, params, true, false⟩

/-- `s` with `e` waiting in the command queue. -/
def waiting (s : State) (e : Entry) : State := { s with lane := { s.lane with queue := [e] } }

/-- `s` with `row` taken for a waiting command of this kind and these parameters. -/
def taken (row : Taking → Instr) (kind : Byte) (params : List Byte) (s : State) : State :=
  after (row .queued) (waiting s (entry kind params))

/-- The status octet of the oldest READY reply. -/
def status (s : State) : Option Byte := s.lane.ready.head?.bind fun r => r.params.head?

/-- A tap from P3 to F5 that follows no group. -/
def goodTap : Tap := ⟨3, 1487, 0x4000, 5, 255, 0⟩

/-- A tap from P3 into core line (0, 2). -/
def coreTap : Tap := ⟨3, 0, 0x4000, 66, 255, 0⟩

/-- A scene in state `st` with these taps. -/
def scene (st : SceneState) (taps : List Tap) : Scene := ⟨st, Header.default, taps, .none⟩

/-- `s` with scene `i` replaced. -/
def withScene (i : Fin 16) (sc : Scene) (s : State) : State := { s with scenes := s.scenes.set i sc }

/-- `s` with core `c` replaced by `f` of it. -/
def withCore (c : Fin 4) (f : RevCore → RevCore) (s : State) : State := { s with cores := s.cores.modify c f }

/-- `s` with guard `f` replaced. -/
def withGuard (f : Fin 32) (g : Guard) (s : State) : State := { s with guards := s.guards.set f g }

/-- The guard of the worked cut of chapter 8.9. -/
def howlGuard : Guard := ⟨true, 512, 6, 32, 192, 100, 20, false, .watch, 0, 0, 100000, 2, 0, 0⟩

/-! ## Well-formedness: an ill-formed term for each check -/

theorem test_wf_outbound_length : (Instr.outboundFrameReceive [] false).wf = false := by decide

theorem test_wf_return_length : (Instr.returnFrameReceive [0]).wf = false := by decide

theorem test_wf_message_length :
    (Instr.hold (.arriving ⟨1, 0, false, List.replicate 442 0⟩)).wf = false := by decide +kernel

theorem test_wf_message_longest :
    (Instr.hold (.arriving ⟨1, 0, false, List.replicate 441 0⟩)).wf = true := by decide +kernel

theorem test_wf_bad_kind_known : (Instr.badKindCommand 48 .queued).wf = false := by decide

theorem test_wf_bad_kind_reply : (Instr.badKindCommand 128 .queued).wf = false := by decide

theorem test_wf_bad_kind_unknown : (Instr.badKindCommand 5 .queued).wf = true := by decide

/-! ## Encodings -/

/-- R3: the CRC-16 of the octets of "123456789" is 29B1H. -/
theorem test_crc_check_value : crc16 [49, 50, 51, 52, 53, 54, 55, 56, 57] = 0x29B1#16 := by decide +kernel

set_option maxRecDepth 200000 in
/-- R168: an outbound frame as originated is a good outbound frame. -/
theorem test_outbound_frame_good :
    goodFrame? false (Frame.originate 100).octets = some (Frame.originate 100) := by decide +kernel

/-- The turned copy of that frame at node 15. -/
def turned : Frame := (Frame.originate 100).turnedBy 15

set_option maxRecDepth 200000 in
/-- R12, R168: a turned frame is a good return frame. -/
theorem test_return_frame_good : goodFrame? true turned.octets = some turned := by decide +kernel

/-- R4: octets that are no frame are a bad frame at either port. -/
theorem test_short_frame_bad : goodFrame? false [] = none ∧ goodFrame? true [] = none := by decide

/-- R171: K's IDENTIFY of node 2, tag 7: header, no parameters, check. -/
theorem test_message_octets :
    messageOctets 2 1 7 [] = [2, 1, 7, 0, 0] ++ crcOctets [2, 1, 7, 0, 0] := by decide +kernel

/-- R157, section 10.8: 12 parameter octets need 3 segments, FIRST, MORE and LAST. -/
theorem test_segment_marks :
    segmentsNeeded 12 = 3 ∧ (List.range 3).map (fun i => markOctet i 3) = [2, 3, 4] ∧ segmentsNeeded 0 = 1 ∧
    segmentsNeeded 441 = 64 := by decide

/-! ## Figures of the worked sections -/

/-- Section 2.2.1. -/
theorem test_gain_worked : [0, 32, 64, 96, 192, 200, 512, 544, 960, 1023, 1024].map gain =
    [8388608, 5931642, 4194304, 2965821, 1048576, 961548, 32768, 23170, 256, 129, 0] := by decide +kernel

/-- R89: every fine table entry is 2^23 * 2^(-j/4096) rounded to the nearest whole number. -/
theorem test_fine_table_rounded : ∀ j < 64,
    (2 * fine j - 1) ^ 4096 ≤ 2 ^ (98304 - j) ∧ 2 ^ (98304 - j) < (2 * fine j + 1) ^ 4096 := by
  decide +kernel

/-- Section 2.4.1, steps 1 to 4. -/
theorem test_group_worked :
    ([1, 2, 3].map fun n => (Group.tick^[n] ((⟨0, 0, 0, .steady⟩ : Group).aim 200 48)).current) = [48, 96, 144] ∧
    (Group.aim 100 10 ⟨144, 200, 48, .falling⟩).phase = .rising := by decide

/-- Section 2.9, ticks 40, 58 and 64. -/
theorem test_feed_worked :
    outputValue 57313 (feedTotal 384 0 384) = 14 ∧ outputValue 57313 (feedTotal 96 0 96) = 7164 ∧
    outputValue 57313 (feedTotal 96 0 0) = 20263 := by decide +kernel

/-- Section 3.6.1: P7 and its peaks. -/
def gateWorked (peaks : List Nat) : Pickup :=
  peaks.foldl (fun p peak => ({ p with peak := peak } : Pickup).tick)
    ⟨some 20, true, 384, 448, 3, 256, 64, 16, .closed, 256, 0, 0, 0, 0⟩

/-- Section 3.6.1, ticks 2, 4, 6 and 10. -/
theorem test_gate_worked :
    ((gateWorked [40000, 200000]).gate, (gateWorked [40000, 200000]).level) = (.opened, 192) ∧
    ((gateWorked [40000, 200000, 150000, 50000]).gate,
      (gateWorked [40000, 200000, 150000, 50000]).hangCount) = (.hanging, 3) ∧
    (gateWorked [40000, 200000, 150000, 50000, 30000, 90000]).gate = .opened ∧
    ((gateWorked [40000, 200000, 150000, 50000, 30000, 90000, 20000, 10000, 10000, 10000]).gate,
      (gateWorked [40000, 200000, 150000, 50000, 30000, 90000, 20000, 10000, 10000, 10000]).level) =
      (.closed, 16) := by decide +kernel

/-- Section 3.7.1. -/
theorem test_delay_positions :
    delayPosition (100000 - 1487) = 209 ∧ delayPosition 100000 = 1696 ∧ delayPosition (100 - 1000) = 31868 ∧
    delayPosition (65536 - 32767) = 1 := by decide +kernel

/-- Section 4.8, effective gains. -/
theorem test_base_gains :
    baseGain 16384 (gain 200) = 480774 ∧ baseGain (-8192) 8388608 = -2097152 ∧
    baseGain 12000 8388608 = 3072000 ∧ baseGain 20000 (gain 200) = 586882 := by decide +kernel

/-- Section 4.4.1. -/
theorem test_wander_worked :
    [3000, 5000, 7000, 1000, 2999].map (fun n => wandered 4 8000 n 13 480774) =
      [480774, 465750, 450740, 465764, 480774] := by decide +kernel

/-- Section 4.8: F5's value, its out value and the mixed values at w = 2,048. -/
theorem test_mix_worked :
    scale23 1249208960000 = 148917 ∧ outputValue 148917 96 = 52650 ∧ crossfade 20000 148917 2048 = 52229 ∧
    crossfade 0 91553 2048 = 22888 ∧ outputValue 52229 96 = 18466 := by decide +kernel

/-- Section 5.4.3. -/
theorem test_absorption_worked : passLoss 1487 2400 = 527 ∧ absorption 1487 2400 = 7672886 := by decide +kernel

/-- The core of section 5.3.1, lines 0 to 2; line 1 has length 100. -/
def coreWorked : RevCore :=
  { RevCore.reset with
    state := .shaped
    clearCount := 8
    lengths := ⟨[1487, 100, 1487, 64, 64, 64, 64, 64], rfl⟩
    mem := [(0, 1000000), (1487, BitVec.ofInt 24 (-200000)), (1587, 100000)]
    damp := ⟨[800000, BitVec.ofInt 24 (-200000), 0, 0, 0, 0, 0, 0], rfl⟩
    active := ⟨⟨[7672886, 7340032, 7672886, 0, 0, 0, 0, 0], rfl⟩, 64⟩ }

/-- Section 5.3.1: what each of lines 0 to 3 is written with, the new damping states and the indices. -/
theorem test_core_worked :
    let c := coreWorked.compute none fun l => if l = 2 then 91553 else 0
    [0, 1487, 1587, 3074].map (fun p => (c.mem.read p).toInt) = [678308, -365637, -30483, -190637] ∧
    (c.damp.get 0).toInt = 950000 ∧ (c.damp.get 2).toInt = 75000 ∧ c.index.get 0 = 1 := by decide +kernel

/-- Section 5.5.1: line 0 and the damping at each tick of the crossfade. -/
theorem test_core_fade_worked :
    [2048, 4096, 6144, 8192].map (fun w => crossfadeNat 0 7672886 w) = [1918222, 3836443, 5754665, 7672886] ∧
    [2048, 4096, 6144].map (fun w => crossfadeNat 0 64 w) = [16, 32, 48] := by decide +kernel

/-- Section 8.9, ticks 1 to 6, and the cut of tick 7. -/
theorem test_guard_worked :
    let g := [100000, 110000, 121000, 133100, 146410, 161051].foldl (fun g p => Guard.tick false p g) howlGuard
    g.run = 5 ∧ g.state = .watch ∧
    (g.tick false 177156).state = .cut ∧ (g.tick false 177156).trim = 32 ∧
    (g.tick false 177156).timer = 100 ∧ ((g.tick false 177156).tick false 138000).timer = 99 := by
  decide +kernel

/-- CrossfadeAndCoreBounds and AbsorptionStaysBelowUnity at the ends of their ranges. -/
theorem witness_numeric_ranges :
    crossfade (-8388608) 8388607 8192 = 8388607 ∧ crossfadeNat 8387189 0 8192 = 0 ∧ crossfadeNat 8387189 0 0 = 8387189 ∧ (240 : Nat) ≤ 240 ∧
    smooth 240 0 (-8388608) = -7864320 ∧ scale23 (8387189 * -8388608) = -8387189 ∧
    absorptionOfLoss 1 = 8387189 ∧ absorptionOfLoss 34824 ≤ absorptionOfLoss 1 := by decide +kernel

/-- R166, R169: a leader just reset: PRESENT, LEADER, ATTENTION, HOLD. -/
theorem test_rollCall : (State.powerOn true 0).rollCall = 0xE8 := by decide +kernel

/-- R190: the first two words of the stream after 23 ones. -/
theorem test_stream_words :
    streamWord (BitVec.allOnes 23) = 0x3E#24 ∧ streamWord (seedOf 0x3E#24) = 0xFFC#24 := by decide +kernel


/-! ## Witnesses: steps, resets and laws -/

/-- A member in the midst of everything: a scene ACTIVE, one CUED, one being checked, a core SHAPED, a feed cut, a
gate on, six commands queued, a reply waiting, a message in assembly, a delay line written. -/
def busy : State :=
  let s := withScene 2 (scene .checking [goodTap, coreTap]) (withScene 1 (scene .cued [coreTap])
    (withScene 0 (scene .active [goodTap]) member))
  { withCore 0 (fun c => { c with state := .shaped, clearCount := 8 })
      (withGuard 4 { howlGuard with state := .cut, trim := 32, timer := 9 } s) with
    check := some ⟨2, 1, some ⟨5, 7, 36, false⟩⟩
    cue := { s.cue with state := .armed, target := some 1, frameX := 200, wanderActive := some 0 }
    pickups := s.pickups.modify 3 fun p => { p with slot := some 20, enable := true, gate := .hanging, hangCount := 4 }
    delay := s.delay.set 3 [(5, 1000)]
    level := { s.level with feeds := s.level.feeds.set 5 ⟨some 40, 96, 96⟩ }
    lane := { s.lane with
      contexts := s.lane.contexts.set 1 (some ⟨[3, 33, 7, 0, 12, 4, 0], 1, 12, false, 113⟩)
      queue := List.replicate 6 (entry 48 [])
      ready := [⟨5, 129, 7, [0, 1, 2, 3]⟩]
      sent := 1
      backpressure := true } }

/-- `busy` with a command in front of the model's queue. -/
def busyStep : State := { busy with pending := [.syncMissingPeriod .U false] }

theorem witness_step_front : busyStep.pending = [.syncMissingPeriod .U false] ∧ busy.pending = [] := ⟨rfl, rfl⟩

theorem witness_step_answers : ∃ t, step busyStep = .next t := ⟨_, rfl⟩

theorem witness_ChainLaw : busyStep.ChainLaw := by decide +kernel

theorem witness_CodeLaw : busyStep.CodeLaw := by decide +kernel

theorem witness_HoldLaw : busyStep.HoldLaw := by decide +kernel

theorem witness_LaneLaw : busyStep.LaneLaw := by decide +kernel

theorem witness_MemoryLaw_SceneLaw : busyStep.MemoryLaw ∧ busyStep.SceneLaw :=
  ⟨by decide +kernel, by decide +kernel⟩

theorem witness_SceneLaw_CheckedLaw : busyStep.SceneLaw ∧ busyStep.CheckedLaw := by decide +kernel

theorem witness_SlotLaw_CountLaw : busyStep.SlotLaw ∧ busyStep.CountLaw := by decide +kernel

theorem witness_CommandsAnswerNextKeepingRole : ∀ (lead : Bool) (a : Fin 16),
    Instr.syncMissingPeriod .U false ≠ .powerOnReset lead a := by decide

theorem witness_HeldResetStopsEveryCommand :
    (after .powerOnResetHeld busy).pins.rstLow = true ∧ Instr.checkPass ≠ .powerOnResetHeld ∧
    ∀ (lead : Bool) (a : Fin 16), Instr.checkPass ≠ .powerOnReset lead a := by decide

theorem witness_NodeResetAndWakeReset :
    let r := waiting member (entry 2 [])
    let w := waiting quietMember (entry 4 [])
    let v := waiting member (entry 4 [])
    r.pins.rstLow = false ∧ r.lane.queue = [entry 2 []] ∧ w.lane.queue = [entry 4 []] ∧
    w.hold.condition = .quiet ∧ v.lane.queue = [entry 4 []] ∧ v.hold.condition ≠ .quiet := by decide

theorem witness_LatchesAndCountersPersist :
    busy.events.Lawful ∧ (∃ t, exec (.hold .queued) busy = .next t) ∧
    (∀ (lead : Bool) (a : Fin 16), Instr.hold .queued ≠ .powerOnReset lead a) :=
  ⟨by decide +kernel, ⟨_, rfl⟩, by decide⟩

/-! ## Witnesses: encodings and arithmetic -/

theorem witness_TapRecordLayout : (⟨3, 32767, 0x8000, 5, 255, 7⟩ : Tap).delay ≤ 32767 ∧
    (⟨3, 32767, 0x8000, 5, 255, 7⟩ : Tap).depth ≤ 7 := by decide

/-- SegmentsReassembleTheMessage: the shortest and the longest message, for the part and for all nodes. -/
theorem witness_SegmentsReassembleTheMessage : ∀ n ∈ [0, 441], ∀ dest ∈ [(3 : Byte), 255],
    (dest = octet member.chain.address.val ∨ dest = 255) ∧ (127 : Byte).toNat < 128 ∧
    (List.replicate n (0xA5 : Byte)).length ≤ 441 ∧
    turnOf 5 ≠ member.chain.address ∧ member.lane.contexts.get (turnOf 5) = none := by decide +kernel

/-- LaneBreaksAndDiscardsMessages: a frame of the part's own turn; an IDLE context, with a segment that begins nothing,
one for another node, ONLY, and FIRST of 442 and of 441 octets; a context that waits for frame 113, with its frame and
another, MORE and LAST, and MORE at its needed count; a sound message of kind 1, one of kind 129, a bad one; a loss
of a frame read and of one not. -/
theorem witness_LaneBreaksAndDiscardsMessages :
    turnOf 3 = busy.chain.address ∧
    (turnOf 2 ≠ busy.chain.address ∧ busy.lane.contexts.get (turnOf 2) = none) ∧
    ((0 : Byte) ≠ 1 ∧ (0 : Byte) ≠ 2 ∧ ¬((4 : Byte) = 255 ∨ (4 : Byte) = octet busy.chain.address.val) ∧
      octet busy.chain.address.val = 3) ∧
    (441 < at16 [3, 33, 7, 1, 186] 3 ∧ at16 [3, 33, 7, 1, 185] 3 = 441) ∧
    (turnOf 113 ≠ busy.chain.address ∧
      busy.lane.contexts.get (turnOf 113) = some ⟨[3, 33, 7, 0, 12, 4, 0], 1, 12, false, 113⟩ ∧
      turnOf 129 = turnOf 113 ∧ (129 : FrameNo) ≠ 113 ∧ 1 < segmentsNeeded 12 ∧ segmentsNeeded 12 ≤ 3) ∧
    (∀ kind ∈ [(1 : Byte), 127, 128, 255], let o := messageOctets 3 kind 7 []
      1 = (0 + 13) / 7 ∧ at16 o (0 + 5) = (crc16 (o.take (0 + 5))).toNat ∧ at8 o 1 = kind.toNat) ∧
    ¬(2 = (0 + 13) / 7) ∧
    (let s : State := { busy with lane := { busy.lane with record := busy.lane.record.set 1 (some ⟨113, true⟩) } }
     s.lane.record.get (turnOf 113) = some ⟨113, true⟩ ∧
     busy.lane.record.get (turnOf 113) ≠ some ⟨113, true⟩) := by decide +kernel

/-- Each clause of GroupsMoveAtTick: at once, rising, falling, steady. -/
theorem witness_GroupsMoveAtTick :
    (⟨1024, 0, 0, .rising⟩ : Group).rate = 0 ∧
    (0 < (⟨1024, 0, 255, .rising⟩ : Group).rate ∧
      (⟨1024, 0, 255, .rising⟩ : Group).target < (⟨1024, 0, 255, .rising⟩ : Group).current) ∧
    (⟨0, 1024, 1, .falling⟩ : Group).current < (⟨0, 1024, 1, .falling⟩ : Group).target ∧
    (Group.tick ⟨1024, 0, 255, .rising⟩).phase = .rising ∧ (Group.tick ⟨0, 1024, 1, .falling⟩).phase = .falling ∧
    (Group.tick ⟨1024, 0, 0, .rising⟩).phase = .steady := by decide

/-- TapGainsAndValues: a state with no scene ACTIVE and no crossfade, one in a crossfade, and a list that does not name
feed 6; the first and the last pickup and core line as sources; group 31 and NONE; depths 0 and 7, with and without a
period. -/
theorem witness_TapGainsAndValues :
    member.cue.state.fades = false ∧ (∀ i, (member.scenes.get i).state ≠ .active) ∧
    (∀ t ∈ [goodTap, coreTap], t.dest ≠ 6) ∧
    ((0 : Byte).toNat = (0 : Fin 48).val ∧ (47 : Byte).toNat = (47 : Fin 48).val) ∧
    ((64 : Byte).toNat = 64 + 8 * (0 : Fin 4).val + (0 : Fin 8).val ∧
      (95 : Byte).toNat = 64 + 8 * (3 : Fin 4).val + (7 : Fin 8).val) ∧
    (goodTap.group = 255 ∧ goodTap.depth = 0 ∧ (31 : Byte).toNat = (31 : Fin 32).val) ∧
    (0 < ({ goodTap with depth := 7 } : Tap).depth ∧ 0 < 1000) ∧ CueState.fading.fades = true := by decide +kernel

/-- OutputStageScalesOrMutes: a held part, a held part whose frame leaves it HELD, a part that computes nothing. -/
theorem witness_OutputStageScalesOrMutes :
    1024 ≤ leader.level.hold ∧ leader.HoldLaw ∧ (leader.paceFrame 0).hold.state = .held ∧
    quietMember.hold.condition ≠ .running := by decide +kernel

theorem witness_GateMovesAtTick :
    (gateWorked []).gate = .closed ∧ (gateWorked [200000]).gate = .opened ∧
    (gateWorked [200000, 50000]).gate = .hanging ∧ (gateWorked [200000, 50000]).enable = true ∧
    Pickup.reset.enable = false := by decide +kernel

/-- GuardMovesAtTick: a tick that cuts (run at its rise), and the five ticks that do not. -/
theorem witness_GuardMovesAtTick :
    let fifth : Guard := { howlGuard with run := 5, prevPeak := 161051 }
    Guard.reset.enable = false ∧ fifth.enable = true ∧
    (177156 > fifth.prevPeak + fifth.prevPeak / 16 ∧ gain fifth.floorCode ≤ 177156 ∧ min 2 (fifth.settle + 1) = 2 ∧
      fifth.rise ≤ min 64 (fifth.run + 1)) ∧
    fifth.IsCut false 177156 ∧ ¬fifth.IsCut true 177156 ∧
    (0 < howlGuard.rise ∧ howlGuard.state = .watch) ∧
    (∀ timer ∈ [0, 1, 2, 65535], ({ howlGuard with state := .cut, timer := timer } : Guard).state = .cut) ∧
    (∀ count ∈ [0, 1, 2, 255], ({ howlGuard with state := .recover, count := count } : Guard).state = .recover) := by
  decide +kernel

/-- A part whose feed 12 rises for the sixth time at its next tick, its trim at its limit of 192, with escalation. -/
def howling : State :=
  let s := withGuard 12 { howlGuard with run := 5, prevPeak := 161051, state := .cut, trim := 192, escalate := true } member
  { s with taps := { s.taps with peaks := s.taps.peaks.set 12 177156 } }

/-- CoresClearOrRunInAComputation: a core in each state, a crossfade at its ends and none, and the worked core's law. -/
theorem witness_CoresClearOrRunInAComputation :
    RevCore.reset.state = .unshaped ∧
    (∀ n ∈ [0, 7], let c : RevCore := { RevCore.reset with state := .shaping, clearCount := n }
      c.state = .shaping ∧ c.state ≠ .shaped) ∧
    coreWorked.state = .shaped ∧ coreWorked.Lawful ∧
    (∀ w ∈ [none, some 0, some 8192], ∀ v ∈ w, v ≤ 8192) := by decide +kernel

/-- PatternStreamAndChecker: an off checker; one seeded anew by its mark, by a repeated frame number and by a gap of 17;
one that judges a gap of 1 and of 16, in SEEKING and in IN_SYNC. -/
theorem witness_PatternStreamAndChecker :
    Pattern.reset.chkOn = false ∧ Pattern.reset.genOn = false ∧
    (∀ sync ∈ [false, true],
      let p : Pattern := { Pattern.reset with chkOn := true, inSync := sync, lastFrame := 0xFFFFFFFF }
      let judges := fun (p : Pattern) (m : FrameNo) =>
        p.seedNext = false ∧ 1 ≤ (m - p.lastFrame).toNat ∧ (m - p.lastFrame).toNat ≤ 16
      p.chkOn = true ∧ p.inSync = sync ∧ judges p 0 ∧ judges p 15 ∧ ¬judges p 16 ∧ ¬judges p 0xFFFFFFFF ∧
      ¬judges { p with seedNext := true } 0 ∧
      ({ busy with pattern := { p with threshold := 65535 } } : State).CountLaw) := by decide +kernel

/-- DelayLinesKeepHistory: a canonical line at the levels 0 and 1024; a pickup with a slot and one without; an entry
found, one that is invalid, and one of an earlier frame. -/
theorem witness_DelayLinesKeepHistory :
    (busy.delay.get 3).wf = true ∧ (busy.pickups.get 3).level = 0 ∧
    (({ busy with pickups := busy.pickups.modify 4 fun p => { p with level := 1024 } } : State).pickups.get 4).level
      = 1024 ∧
    (busy.pickups.get 3).slot ≠ none ∧ (busy.pickups.get 2).slot = none ∧ busy.events.Lawful ∧
    (busy.buffer.get (turnOf 92)).valid = false ∧
    (let s : State := { busy with buffer := busy.buffer.set 12 { tag := 92, valid := true, samples := Bank.fill 48 7 } }
     (s.buffer.get (turnOf 92)).valid = true ∧ (s.buffer.get (turnOf 92)).tag = 92 ∧
     (s.buffer.get (turnOf 108)).tag ≠ 108) := by decide +kernel

/-- ComputationMovesUnitsAtTicks: a ramp tick at the least and the greatest of its numbers, and a computation beside. -/
theorem witness_ComputationMovesUnitsAtTicks :
    (0 : FrameNo).toNat % 48 = 0 ∧ (4294967280 : FrameNo).toNat % 48 = 0 ∧ (47 : FrameNo).toNat % 48 ≠ 0 ∧
    (member.hold.state = .running ∧ leader.hold.state = .held ∧ leader.hold.any = true ∧
      member.hold.any = false) := by decide

/-! ## Witnesses: ports and frames -/

/-- The member with a Port D that seeks with this good run. -/
def seeking (good : Nat) : State :=
  { member with chain := { member.chain with portD := ⟨.seeking, good, 0⟩, syncD := true } }

theorem witness_LineActivityMovesPorts :
    leader.pins.rstLow = false ∧ leader.chain.leader = true ∧
    (isolated PortRx.down).chain.portU.state = .down ∧ (isolated ⟨.seeking, 3, 0⟩).chain.portU.state = .seeking ∧
    member.chain.portU.state ≠ .down ∧ member.chain.portD.state = .down ∧ inner.chain.portD.state ≠ .down ∧
    (seeking 1).chain.portD.state = .seeking ∧ inner.chain.portD.state = .locked := by decide

theorem witness_LineActivityMovesPorts_lawful : (seeking 1).ChainLaw ∧ inner.ChainLaw :=
  ⟨by decide +kernel, by decide +kernel⟩

/-- UpstreamLossIsolates: a LOCKED Port U one bad frame short of its threshold of 8, and octets that are no frame. -/
theorem witness_UpstreamLossIsolates :
    let s : State := { member with chain := { member.chain with portU := ⟨.locked, 0, 7⟩ } }
    s.pins.rstLow = false ∧ s.chain.leader = false ∧ s.chain.portU.state = .locked ∧ s.chain.syncU = true ∧
    s.chain.lockB ≤ min 64 (s.chain.portU.bad + 1) ∧ goodFrame? false [] = none := by decide

/-- LeaderOriginatesFrames: a member, and a leader in its own turn and in another, with a feed on slot 40 and the
generator on slot 90; a reply of two segments, with none and with one of them sent. -/
theorem witness_LeaderOriginatesFrames :
    let s : State := { leader with
      level := { leader.level with feeds := leader.level.feeds.set 5 ⟨some 40, 96, 96⟩ }
      pattern := { leader.pattern with genOn := true, genSlot := 90 } }
    member.chain.leader = false ∧ s.pins.rstLow = false ∧ s.chain.leader = true ∧ s.chain.txU = none ∧
    s.SlotLaw ∧ (s.level.feeds.get 5).slot = some 40 ∧ s.pattern.genOn = true ∧
    (∀ f, (s.level.feeds.get f).slot ≠ some 7) ∧ (s.pattern.genOn && s.pattern.genSlot == 7) = false ∧
    turnOf ({ s.chain with counter := 1 } : Chain).counter ≠ s.chain.address ∧
    turnOf s.chain.counter = s.chain.address ∧ s.hold.condition = .running ∧
    (⟨5, 129, 7, [0]⟩ : Reply).segments ≤ 1 + 1 ∧ 0 + 1 < (⟨5, 129, 7, [0]⟩ : Reply).segments := by
  decide +kernel

/-- LockedGoodFrameIsHandled: a LOCKED member in END, in THROUGH and in QUIET, and a good frame with the node's
octet free. -/
theorem witness_LockedGoodFrameIsHandled :
    goodFrame? false (Frame.originate 100).octets = some (Frame.originate 100) ∧
    (member.pins.rstLow = false ∧ member.chain.leader = false ∧ member.chain.portU.state = .locked) ∧
    member.chain.turnaround = .chainEnd ∧ inner.chain.turnaround ≠ .chainEnd ∧
    ((Frame.originate 100).roll.get member.chain.address).getLsbD 7 = false ∧
    turnOf 100 ≠ member.chain.address ∧ quietMember.SlotLaw ∧ quietMember.hold.condition = .quiet ∧
    quietMember.chain.portU.state = .locked ∧
    (∀ i, (member.level.feeds.get i).slot ≠ some 7) ∧ (member.pattern.genOn && member.pattern.genSlot == 7) = false :=
  ⟨test_outbound_frame_good, by decide +kernel⟩

/-- LeaderOriginatesFrames, LockedGoodFrameIsHandled and LockingFrameEndsIsolation, the own return pass: a part in END,
in RUNNING and not, and one in THROUGH; a frame whose loss has not been taken, and one whose loss has. -/
theorem witness_ReadsOwn :
    member.chain.turnaround = .chainEnd ∧ leader.chain.turnaround = .chainEnd ∧ inner.chain.turnaround ≠ .chainEnd ∧
    member.hold.condition = .running ∧ quietMember.hold.condition ≠ .running ∧
    member.lane.record.get (turnOf 100) ≠ some ⟨100, false⟩ ∧
    ((member.setRecord 100 false).lane.record.get (turnOf 100) = some ⟨100, false⟩) := by decide +kernel

/-- A frame in which node 3's roll-call octet has been written before it arrives. -/
def clashing : Frame := { Frame.originate 100 with roll := (Bank.fill 16 0).set 3 0x80 }

set_option maxRecDepth 200000 in
/-- LockedGoodFrameIsHandled, the clause of a clash: the frame is good and carries the node's octet. -/
theorem witness_LockedGoodFrameIsHandled_clash :
    goodFrame? false clashing.octets = some clashing ∧
    (clashing.roll.get member.chain.address).getLsbD 7 = true := by decide +kernel

/-- A frame of node 3's turn with a lane segment of this mark. -/
def ownTurn (mark : Byte) : Frame := { Frame.originate 99 with segment := { Segment.empty with mark := mark } }

set_option maxRecDepth 200000 in
/-- LockedGoodFrameIsHandled, the own turn, in a frame that is not the one expected: without a clash, and with a
segment that another node has written. -/
theorem witness_LockedGoodFrameIsHandled_ownTurn :
    goodFrame? false (ownTurn 0).octets = some (ownTurn 0) ∧ goodFrame? false (ownTurn 1).octets = some (ownTurn 1) ∧
    turnOf 99 = member.chain.address ∧ (ownTurn 0).segment.mark = 0 ∧ (ownTurn 1).segment.mark ≠ 0 ∧
    ((ownTurn 0).roll.get member.chain.address).getLsbD 7 = false ∧ (99 : FrameNo) ≠ member.chain.expected ∧
    0 < busy.lane.sent ∧ member.lane.sent = 0 ∧ member.hold.condition = .running := by decide +kernel

/-- LockingFrameEndsIsolation: a SEEKING Port U one good frame short of its threshold of 32. -/
theorem witness_LockingFrameEndsIsolation :
    let s := isolated ⟨.seeking, 31, 0⟩
    s.pins.rstLow = false ∧ s.chain.leader = false ∧ s.chain.portU.state = .seeking ∧
    s.chain.lockG ≤ min 255 (s.chain.portU.good + 1) ∧
    goodFrame? false (Frame.originate 100).octets = some (Frame.originate 100) :=
  ⟨by decide, by decide, by decide, by decide, test_outbound_frame_good⟩

/-- UnlockedPortUPassesFrames: the leader, a DOWN port, and a SEEKING port two good frames short of its threshold,
that has found a sync pattern and that has not. -/
theorem witness_UnlockedPortUPassesFrames :
    leader.chain.leader = true ∧ (isolated PortRx.down).chain.portU.state = .down ∧
    (let s := isolated ⟨.seeking, 30, 0⟩
     s.pins.rstLow = false ∧ s.chain.leader = false ∧ s.chain.portU.state = .seeking ∧
     min 255 (s.chain.portU.good + 1) < s.chain.lockG ∧ s.chain.syncU = true) ∧
    (let s := after (.lineActivityAppears .U) (isolated PortRx.down)
     s.pins.rstLow = false ∧ s.chain.leader = false ∧ s.chain.portU.state = .seeking ∧ s.chain.syncU = false) ∧
    goodFrame? false (Frame.originate 100).octets = some (Frame.originate 100) ∧ goodFrame? false [] = none :=
  ⟨by decide, by decide, by decide, by decide, test_outbound_frame_good, by decide⟩

/-- LockedBadFrameIsHandled: two bad frames short of the threshold of 8; in an own turn; in QUIET. -/
theorem witness_LockedBadFrameIsHandled :
    let s : State := { member with chain := { member.chain with portU := ⟨.locked, 0, 6⟩, expected := 99 } }
    s.pins.rstLow = false ∧ s.chain.leader = false ∧ s.chain.portU.state = .locked ∧ s.chain.syncU = true ∧
    min 64 (s.chain.portU.bad + 1) < s.chain.lockB ∧ goodFrame? false [] = none ∧
    turnOf s.chain.expected = s.chain.address ∧
    (quietMember.chain.portU.state = .locked ∧ quietMember.hold.condition ≠ .running) := by decide

/-- A part in DETACHED with a SEEKING Port D. -/
def detached : State :=
  { isolated PortRx.down with chain := { (isolated PortRx.down).chain with portD := ⟨.seeking, 0, 0⟩ } }

/-- The inner member with its discard mark set by this switch number. -/
def marked (number : FrameNo) : State :=
  { inner with chain := { inner.chain with discard := true, switchNo := number } }

/-- GoodReturnFrameIsReadOrDropped: a DOWN port; DETACHED; END at a port that stays SEEKING; END at a port that locks
with this frame, whose number is the switch number or lies just before it; THROUGH with the mark and without. -/
theorem witness_GoodReturnFrameIsReadOrDropped :
    goodFrame? true turned.octets = some turned ∧
    (member.pins.rstLow = false ∧ member.chain.portD.state = .down) ∧
    (detached.chain.portD.state ≠ .down ∧ detached.chain.turnaround = .detached) ∧
    ((seeking 30).chain.turnaround = .chainEnd ∧
      ¬((seeking 30).chain.portD.state = .locked ∨
        (seeking 30).chain.lockG ≤ min 255 ((seeking 30).chain.portD.good + 1))) ∧
    ((seeking 31).chain.turnaround = .chainEnd ∧
      (seeking 31).chain.lockG ≤ min 255 ((seeking 31).chain.portD.good + 1) ∧
      (turned.number - (seeking 31).chain.expected).toNat < 2147483648 ∧
      2147483648 ≤ (turned.number - ({ (seeking 31).chain with expected := 101 } : Chain).expected).toNat) ∧
    ((marked 101).chain.turnaround = .through ∧ (marked 101).chain.discard = true ∧
      2147483648 ≤ (turned.number - (marked 101).chain.switchNo).toNat ∧
      (turned.number - (marked 100).chain.switchNo).toNat < 2147483648) ∧
    (inner.chain.portD.state = .locked ∧ inner.chain.turnaround = .through ∧ inner.chain.discard = false ∧
      inner.hold.condition = .running ∧
      inner.lane.record.get (turnOf turned.number) ≠ some ⟨turned.number, false⟩) :=
  ⟨test_return_frame_good, by decide +kernel⟩

theorem witness_GoodReturnFrameIsReadOrDropped_lawful :
    detached.ChainLaw ∧ (seeking 30).ChainLaw ∧ (seeking 31).ChainLaw ∧ (marked 101).ChainLaw ∧ inner.ChainLaw :=
  ⟨by decide +kernel, by decide +kernel, by decide +kernel, by decide +kernel, by decide +kernel⟩

/-- BadReturnFrameIsForwarded: a frame and a missing sync pattern, at a DOWN port, at one that has found no sync
pattern, and at a LOCKED one, at and short of its threshold of 8. -/
theorem witness_BadReturnFrameIsForwarded :
    goodFrame? true ((some [] : Option (List Byte)).getD []) = none ∧ (some [] : Option (List Byte)).isSome ∧
    member.chain.portD.state = .down ∧ inner.chain.portD.state ≠ .down ∧ inner.pins.holdPulled = false ∧
    inner.chain.syncD = true ∧
    (after (.lineActivityAppears .D) member).chain.syncD = false ∧
    min 64 (({ inner.chain with portD := ⟨.locked, 0, 6⟩ } : Chain).portD.bad + 1) < inner.chain.lockB ∧
    ({ inner with chain := { inner.chain with portD := ⟨.locked, 0, 7⟩ } } : State).ChainLaw := by decide +kernel

/-! ## Tests: pins, lines and frames -/

/-- R1, R154: the straps are read as RST_N rises. -/
theorem test_powerOnReset : (after (.powerOnReset false 9) busy).chain.address = 9 ∧
    (after (.powerOnReset false 9) busy).chain.turnaround = .detached := by decide

/-- R154: nothing is driven while RST_N is low. -/
theorem test_powerOnResetHeld :
    (after .powerOnResetHeld (taken .hold 48 [] member)).drivesHoldN = false := by decide

/-- R5: DOWN to SEEKING. -/
theorem test_lineActivityAppears : (after (.lineActivityAppears .D) member).chain.portD.state = .seeking := by decide

/-- R14: THROUGH to END, with CHAIN_D and TOPOLOGY. -/
theorem test_lineActivityLost : (after (.lineActivityLost .D) inner).chain.turnaround = .chainEnd ∧
    (after (.lineActivityLost .D) inner).events.latch = 0x400006#23 := by decide

/-- R2, R43: the first frame of a leader uses number 0, and its computation is concealed. -/
theorem test_frameOriginate : (after (.frameOriginate false) leader).chain.counter = 1 ∧
    (after (.frameOriginate false) leader).events.concealed = 1 := by decide +kernel

/-- R8: a good frame's number is adopted, with FRAME_JUMP when it is not the expected one. -/
theorem test_outboundFrameReceive :
    (member.goodOutbound (Frame.originate 100) []).chain.expected = 101 ∧
    (member.goodOutbound (Frame.originate 100) []).events.latched .frameJump = false ∧
    (member.goodOutbound (Frame.originate 102) []).events.latched .frameJump = true := by decide +kernel

/-- R4: a sync pattern is missing in no period before the first one found. -/
theorem test_syncMissingPeriod_first : let s := after (.lineActivityAppears .D) member
    (after (.syncMissingPeriod .D false) s).events.badD = 0 ∧
    (after (.syncMissingPeriod .D false) s.findSyncD).events.badD = 1 := by decide

/-- R13: the switch number follows the next handled frame, though a return frame has cleared the mark. -/
theorem test_switchNo_after_mark :
    let s : State := { inner with chain := { inner.chain with discard := true, switchNo := 100, switchOpen := true } }
    (((s.goodReturn turned []).goodOutbound (Frame.originate 105) []).chain.switchNo,
      (s.goodReturn turned []).chain.discard) = (105, false) := by decide +kernel

/-- R7, R8: a missing sync pattern is one bad frame and takes the expected number. -/
theorem test_syncMissingPeriod : (after (.syncMissingPeriod .U false) member).chain.expected = 101 ∧
    (after (.syncMissingPeriod .U false) member).events.badU = 1 := by decide +kernel

/-- R13: the sixteenth outbound frame since the switch clears the mark, the fifteenth does not. -/
theorem test_sixteenth_frame : let mark := fun n => (after (.syncMissingPeriod .U false)
      { inner with chain := { inner.chain with discard := true, sinceSwitch := n } }).chain
    ((mark 14).discard, (mark 14).sinceSwitch, (mark 15).discard) = (true, 15, false) := by decide +kernel

set_option maxRecDepth 200000 in
/-- R166: the leader's first octet after a reset: PRESENT, LEADER, ATTENTION (RESTARTED), HOLDING. -/
theorem test_octet_in_frame : (after (.frameOriginate false) leader).chain.txD.map (fun o =>
    (goodFrame? false o).map fun g => g.roll.get 0) = some (some 0xE8) := by decide +kernel

/-- R156: a frame read in THROUGH stands in the read record. -/
theorem test_returnFrameReceive :
    (inner.goodReturn turned []).lane.record.get 4 = some ⟨100, true⟩ ∧
    ((inner.goodReturn turned []).buffer.get 4).tag = 100 := by decide +kernel

/-! ## Witnesses: events inside the blocks -/

/-- CountsRunOut: the mark at its sixteenth frame and a clear mark, a core at its last clearing computation, a gate
at its last hanging tick with its peak just below the close threshold, and guards at their last ticks. -/
theorem witness_CountsRunOut :
    (let s : State := { inner with chain := { inner.chain with discard := true, sinceSwitch := 15 } }
     s.pins.rstLow = false ∧ s.chain.discard = true ∧ 15 ≤ s.chain.sinceSwitch) ∧
    inner.chain.discard = false ∧ member.computes = true ∧
    (let c := (withCore 0 (fun c => { c with state := .shaping, clearCount := 7 }) member).cores.get 0
     c.state = .shaping ∧ c.clearCount = 7) ∧
    (let p : Pickup := { Pickup.reset with enable := true, gate := .hanging, hangCount := 1, peak := 16383 }
     p.enable = true ∧ p.gate = .hanging ∧ p.hangCount ≤ 1 ∧ p.peak < gain p.closeCode) ∧
    (∀ trim ∈ [0, 1, 192], let g : Guard := { howlGuard with state := .cut, timer := 1, trim := trim }
      g.enable = true ∧ g.state = .cut ∧ g.timer ≤ 1) ∧
    (∀ trim ∈ [1, 2, 192], let g : Guard := { howlGuard with state := .recover, count := 1, trim := trim }
      g.enable = true ∧ g.state = .recover ∧ g.count ≤ 1) := by decide +kernel

/-- A member checking scene 2 from its first tap. -/
def checking (taps : List Tap) : State :=
  { withScene 2 (scene .checking taps) member with check := some ⟨2, 0, some ⟨5, 7, 36, false⟩⟩ }

/-- CheckAdvancesAndEndsWithItsReply: 64 taps that pass. -/
theorem witness_CheckAdvancesAndEndsWithItsReply_pass :
    let s := checking (List.replicate 64 goodTap)
    s.computes = true ∧ s.check = some ⟨2, 0, some ⟨5, 7, 36, false⟩⟩ ∧
    (∀ t ∈ (s.scenes.get 2).taps.drop 0, checkTap s.cores t = none) ∧
    (s.scenes.get 2).taps.length ≤ 0 + 64 := by decide +kernel

/-- CheckAdvancesAndEndsWithItsReply: 65 taps of which the first 64 pass, and no check. -/
theorem witness_CheckAdvancesAndEndsWithItsReply_goesOn :
    let s := checking (List.replicate 65 goodTap)
    (∀ t ∈ ((s.scenes.get 2).taps.drop 0).take 64, checkTap s.cores t = none) ∧
    0 + 64 < (s.scenes.get 2).taps.length ∧ member.check = none := by decide +kernel

/-- CheckAdvancesAndEndsWithItsReply: the sixty-fourth tap fails, for its core is UNSHAPED. -/
theorem witness_CheckAdvancesAndEndsWithItsReply_fail :
    let s := checking (List.replicate 63 goodTap ++ [coreTap])
    63 < 64 ∧ (s.scenes.get 2).taps[0 + 63]? = some coreTap ∧
    checkTap s.cores coreTap = some .coreUnshaped ∧
    (∀ i < 63, (s.scenes.get 2).taps[0 + i]? = some goodTap) ∧ checkTap s.cores goodTap = none := by decide +kernel

/-- A member with scene 1 cued for computation 200. -/
def armed : State :=
  { withScene 1 (scene .cued [goodTap]) member with
    cue := { CueUnit.reset with state := .armed, target := some 1, frameX := 200 } }

theorem witness_DueCueFires :
    armed.computes = true ∧ armed.cue.state = .armed ∧ armed.cue.target = some 1 ∧
    armed.cue.frameX - 200 = 0 ∧ 2147483648 ≤ (armed.cue.frameX - 201).toNat ∧
    2147483648 ≤ (armed.cue.frameX - (200 + 0x80000000)).toNat ∧
    (({ armed.cue with immediate := true } : CueUnit).immediate = true) ∧
    (armed.cue.immediate = false ∧ armed.cue.frameX ≠ 199 ∧ (armed.cue.frameX - 199).toNat < 2147483648) ∧
    (armed.cue.frameX - (200 + 0x80000001)).toNat < 2147483648 := by decide +kernel

theorem witness_DueCueFires_lawful : armed.SceneLaw := by decide +kernel

/-- A member in the last tick of a crossfade from scene 0 to scene 1, with a cue armed for scene 0. -/
def fadeEnding : State :=
  { withScene 0 (scene .outgoing [goodTap]) (withScene 1 (scene .active [goodTap]) member) with
    cue := { CueUnit.reset with
      state := .fadingArmed, target := some 0, frameX := 200, weight := 8191, stepSize := 1, deferred := true,
      wanderActive := some 3, wanderOutgoing := some 9 } }

theorem witness_CrossfadeEndReleasesScene :
    fadeEnding.computes = true ∧ fadeEnding.cue.state.fades = true ∧
    8192 ≤ fadeEnding.cue.weight + fadeEnding.cue.stepSize := by decide +kernel

/-- TicksMoveCrossfadeWanderAndGains: computation 240, a ramp tick, and 201, none: a cue that fires and one that does
not, a wander of the ACTIVE scene, a crossfade that ends and one with 8,190 to go. -/
theorem witness_TicksMoveCrossfadeWanderAndGains :
    (240 : FrameNo).toNat % 48 = 0 ∧ (201 : FrameNo).toNat % 48 ≠ 0 ∧
    (armed.computes = true ∧ fadeEnding.computes = true ∧ armed.cue.state.fades = false ∧ armed.cue.wanderActive = none) ∧
    (armed.fires 240 = true ∧ armed.fires 199 = false) ∧
    (busy.fires 240 = true ∧ busy.fires 96 = false ∧ (96 : FrameNo).toNat % 48 = 0 ∧
      (busy.scenes.get 0).state = .active ∧ busy.cue.wanderActive = some 0) ∧
    (fadeEnding.cue.state.fades = true ∧ 8192 ≤ fadeEnding.cue.weight + fadeEnding.cue.stepSize ∧
      ({ fadeEnding.cue with weight := 1 } : CueUnit).weight + fadeEnding.cue.stepSize < 8192 ∧
      (fadeEnding.scenes.get 0).state = .outgoing ∧ fadeEnding.cue.wanderOutgoing = some 9) := by decide +kernel

theorem witness_TicksMoveCrossfadeWanderAndGains_lawful :
    armed.SceneLaw ∧ busy.SceneLaw ∧ fadeEnding.SceneLaw :=
  ⟨by decide +kernel, by decide +kernel, by decide +kernel⟩

/-! ## Tests: events inside the blocks -/

/-- R13: the mark is cleared by the sixteenth frame. -/
theorem test_discardMarkExpire :
    (after .discardMarkExpire
      { inner with chain := { inner.chain with discard := true, sinceSwitch := 15 } }).chain.discard = false := by
  decide

/-- R80: SHAPED with clear count 8. -/
theorem test_coreShaped :
    let c := (after (.coreShaped 0)
      (withCore 0 (fun c => { c with state := .shaping, clearCount := 7 }) member)).cores.get 0
    c.state = .shaped ∧ c.clearCount = 8 := by decide +kernel

/-- R110, R174: READY, PASSED, and CHECK_PASSED with the scene and the tap count. -/
theorem test_checkPass :
    let t := after .checkPass (checking (List.replicate 64 goodTap))
    (t.scenes.get 2).state = .ready ∧ t.lane.ready = [⟨5, 164, 7, [12, 2, 0, 64]⟩] := by decide +kernel

/-- R109, R110, R174: EDITING, and CHECK_FAILED with the tap index and CORE_UNSHAPED. -/
theorem test_checkFail :
    let t := after .checkFail (checking (List.replicate 63 goodTap ++ [coreTap]))
    (t.scenes.get 2).state = .editing ∧ t.lane.ready = [⟨5, 164, 7, [13, 2, 0, 63, 5]⟩] := by decide +kernel

/-- R122: a fire from silence, on time, and a late one. -/
theorem test_cueFire :
    let t := after (.cueFire 200) armed
    (t.scenes.get 1).state = .active ∧ t.cue.stepSize = 128 ∧ t.cue.silence = true ∧
    t.events.latched .cueFired = true ∧ t.events.latched .cueLate = false ∧
    (after (.cueFire 201) armed).events.latched .cueLate = true ∧
    (after (.cueFire 199) armed).cue.state = .armed := by decide +kernel

/-- R49, R50: a HANGING gate closes, and its level takes the first release step. -/
theorem test_gateHangExpire :
    let s : State := { member with pickups := member.pickups.modify 7 fun p =>
      { p with enable := true, gate := .hanging, hangCount := 1 } }
    ((after (.gateHangExpire 7) s).pickups.get 7).gate = .closed ∧
    ((after (.gateHangExpire 7) s).pickups.get 7).level = 4 := by decide +kernel

/-- R100, R125: the OUTGOING target becomes CUED, and the deferred cue stays armed. -/
theorem test_crossfadeEnd :
    let t := after .crossfadeEnd fadeEnding
    (t.scenes.get 0).state = .cued ∧ t.cue.state = .armed ∧ t.cue.weight = 8192 ∧ t.cue.deferred = true := by
  decide +kernel

/-- R139: RECOVER with the recovery count loaded. -/
theorem test_quietHoldExpire :
    let g := (after (.quietHoldExpire 12)
      (withGuard 12 { howlGuard with state := .cut, trim := 32, timer := 1 } member)).guards.get 12
    g.state = .recover ∧ g.count = 20 ∧ g.trim = 32 := by decide +kernel

/-- R140: the trim falls by 1, and the last step returns to WATCH. -/
theorem test_recoveryStep :
    let step := fun trim => (after (.recoveryStep 12)
      (withGuard 12 { howlGuard with state := .recover, trim := trim, count := 1 } member)).guards.get 12
    (step 32).trim = 31 ∧ (step 32).count = 20 ∧ (step 1).trim = 0 ∧ (step 1).state = .watch := by decide +kernel

/-! ## Witnesses: the lane -/

theorem witness_CommandsAreQueuedTakenOrWait_arriving :
    ((48, Instr.hold) : Byte × (Taking → Instr)) ∈ laneRows ∧ kindBad 5 = true ∧ member.lane.queue = [] ∧
    busy.lane.queue ≠ [] ∧ busy.pins.rstLow = false :=
  ⟨by simp [laneRows], by decide, rfl, by decide, rfl⟩

theorem witness_CommandsAreQueuedTakenOrWait_lengths : ∀ n ∈ [0, 5, 7, 8],
    ({ member with lane := { member.lane with queue := List.replicate n (entry 48 []) } } : State).lane.queue.length
      = n := by decide

/-- CommandsAreQueuedTakenOrWait: four READY replies leave no entry FREE. -/
theorem witness_CommandsAreQueuedTakenOrWait_waiting :
    let s := waiting { member with lane := { member.lane with ready := List.replicate 4 ⟨5, 129, 7, [0]⟩ } }
      (entry 48 [])
    s.lane.queue = [entry 48 []] ∧ (entry 48 []).broadcast = false ∧ s.freeReplies = 0 ∧
    (entry 48 []).kind ≠ 49 ∧ kindBad (entry 5 []).kind = true ∧ kindBad 6 = true ∧ (entry 5 []).kind ≠ 6 ∧
    (entry 5 []).kind ≠ 2 ∧ (entry 5 []).kind ≠ 4 := by decide

theorem witness_QuietAndWrongLengthAreRefused_quiet : ∀ row ∈ quietRefusedRows,
    (waiting quietMember (entry row.1 [])).Takes (entry row.1 []) [] row.1 0 ∧
    (waiting quietMember (entry row.1 [])).hold.condition = .quiet := by decide +kernel

/-- QuietAndWrongLengthAreRefused: one octet too many for every row, and none for every row that needs some. -/
theorem witness_QuietAndWrongLengthAreRefused_length : ∀ row ∈ fixedRows,
    (waiting member (entry row.1 (List.replicate (row.2.1 + 1) 0))).Takes
      (entry row.1 (List.replicate (row.2.1 + 1) 0)) [] row.1 (row.2.1 + 1) ∧
    member.hold.condition ≠ .quiet := by decide +kernel

/-- QuietAndWrongLengthAreRefused: one octet too many for the four kinds of a fixed length that QUIET admits. -/
theorem witness_QuietAndWrongLengthAreRefused_admitted :
    ∀ row ∈ fixedRows.filter fun row => [(1 : Byte), 8, 9, 12].contains row.1,
      (waiting quietMember (entry row.1 (List.replicate (row.2.1 + 1) 0))).Takes
        (entry row.1 (List.replicate (row.2.1 + 1) 0)) [] row.1 (row.2.1 + 1) ∧
      quietMember.hold.condition = .quiet := by decide +kernel

/-- QuietAndWrongLengthAreRefused, TAP_WRITE: three octets, a count of 55, and a count of 2 with no records. -/
theorem witness_QuietAndWrongLengthAreRefused_tapWrite : ∀ p ∈ [[0, 0, 0], [0, 0, 0, 55], [0, 0, 0, 2]],
    (waiting member (entry 33 p)).Takes (entry 33 p) [] 33 p.length ∧
    (p.length < 4 ∨ 54 < at8 p 3 ∨ p.length ≠ 4 + 8 * at8 p 3) := by decide +kernel

theorem witness_BroadcastQueriesAndBadKindsAreRefused :
    (∀ row ∈ queryRows, (waiting member (broadcast row.1 [])).Takes (broadcast row.1 []) [] row.1 0) ∧
    (∀ k ∈ [(0 : Byte), 5, 127], k.toNat < 128 ∧ k ∉ laneRows.map Prod.fst ∧
      (waiting member (entry k [])).Takes (entry k []) [] k 0) := by decide +kernel

theorem witness_QueriesAnswerWithTheirData : ∀ row ∈ queryRows,
    (waiting member (entry row.1 (List.replicate row.2.1 0))).Takes
      (entry row.1 (List.replicate row.2.1 0)) [] row.1 row.2.1 ∧
    (entry row.1 (List.replicate row.2.1 0)).broadcast = false ∧
    (waiting member (entry row.1 [])).hold.condition ≠ .quiet := by decide +kernel

/-- ReplyDataLayouts: groups 31 and 0 of a mask; a scene that failed its check at tap 1,023; the scene being checked;
the fifty-fourth tap of a read; a scene in a state, and none in another. -/
theorem witness_ReplyDataLayouts :
    ((0x80000001 : BitVec 32).getLsbD 31 = true ∧ (0x80000001 : BitVec 32).getLsbD 0 = true) ∧
    (let sc : Scene := { scene .editing [goodTap] with result := .failed 1023 .coreUnshaped }
     ((withScene 4 sc member).scenes.get 4).result = .failed 1023 .coreUnshaped) ∧
    busy.check = some ⟨2, 1, some ⟨5, 7, 36, false⟩⟩ ∧ busy.check.map CheckRun.scene ≠ some 3 ∧
    (List.replicate 54 goodTap)[53]? = some goodTap ∧
    busy.sceneIn .active = some 0 ∧ busy.sceneIn .outgoing = none := by decide +kernel

/-! ## Tests: the queries -/

/-- R160, R161: a command that arrives at an empty queue is taken at once. -/
theorem test_arriving_taken :
    (after (.hold (.arriving ⟨1, 7, false, []⟩)) member).hold.message = true ∧
    (after (.hold (.arriving ⟨1, 7, false, []⟩)) busy).lane.queue.length = 7 := by decide

/-- R176: a bad kind's reply. -/
theorem test_badKindCommand : (taken (.badKindCommand 5) 5 [] member).lane.ready = [⟨5, 133, 0x77, [1]⟩] := by decide

/-- R179: IDENTIFY gives 18 octets with the status. -/
theorem test_identify : ((taken .identify 1 [] member).lane.ready.map fun r => (r.kind, r.params)) =
    [(129, [0, 0x2A, 0x61, 0x12, 0xE0, 1, 3, 0, 48, 32, 32, 4, 8, 16, 4, 0, 8, 4])] := by decide

/-- R189: RESTARTED alone after a reset. -/
theorem test_eventsRead : ((taken .eventsRead 8 [] leader).lane.ready.map fun r => r.params.take 5) =
    [[0, 0, 0x40, 0, 0]] := by decide +kernel

/-- R6, R181: the thresholds in CHAIN_READ. -/
theorem test_chainRead : ((taken .chainRead 12 [] leader).lane.ready.map fun r => (r.params.drop 9).take 2) =
    [[32, 8]] := by decide +kernel

/-- R192: the pattern unit after a reset, threshold 255. -/
theorem test_patternRead : ((taken .patternRead 17 [0] member).lane.ready.map fun r => r.params) =
    [[0, 0, 0, 0, 0, 0, 0, 0, 0, 0, 0, 0, 0, 0, 0, 0, 0, 0, 255]] := by decide +kernel

/-- R38: a pickup after a reset. -/
theorem test_pickupRead : ((taken .pickupRead 21 [47] member).lane.ready.map fun r => r.params) =
    [[0, 47, 255, 0, 2, 0, 2, 64, 100, 4, 0, 64, 4, 0, 0, 0, 0, 0, 0, 0]] ∧
    status (taken .pickupRead 21 [48] member) = some 3 := by decide +kernel

/-- R28: a feed after a reset. -/
theorem test_feedRead : ((taken .feedRead 23 [31] member).lane.ready.map fun r => r.params) =
    [[0, 31, 255, 4, 0, 4, 0, 0, 0]] := by decide +kernel

/-- R24, R183: the selected groups in rising order. -/
theorem test_groupRead : ((taken .groupRead 25 [0x80, 0, 0, 1] member).lane.ready.map fun r => r.params) =
    [[0, 0x80, 0, 0, 1, 0, 0, 0, 0, 0, 0, 0, 0, 0, 0, 0, 0]] := by decide +kernel

/-- R95, R174: a core after a reset, its lengths 64 and their sum 512. -/
theorem test_coreRead : ((taken .coreRead 29 [3] member).lane.ready.map fun r => r.params.take 23) =
    [[0, 3, 0, 0, 64, 0, 64, 0, 64, 0, 64, 0, 64, 0, 64, 0, 64, 0, 64, 2, 0, 0, 0]] := by decide +kernel

/-- R106: a read past the tap count returns no record. -/
theorem test_tapRead :
    ((taken .tapRead 34 [2, 0, 0, 5] (withScene 2 (scene .ready [goodTap]) member)).lane.ready.map fun r =>
      r.params) = [[0, 2, 0, 0, 1, 3, 5, 207, 64, 0, 5, 255, 0]] ∧
    ((taken .tapRead 34 [2, 0, 1, 5] (withScene 2 (scene .ready [goodTap]) member)).lane.ready.map fun r =>
      r.params) = [[0, 2, 0, 1, 0]] := by decide +kernel

/-- R97, R114: an EMPTY scene with the default header. -/
theorem test_sceneRead : ((taken .sceneRead 37 [15] member).lane.ready.map fun r => r.params.take 8) =
    [[0, 15, 0, 0, 0, 6, 0, 0]] := by decide +kernel

/-- R115, R131: IDLE, no target. -/
theorem test_cueRead : ((taken .cueRead 42 [] member).lane.ready.map fun r => r.params.take 4) =
    [[0, 0, 255, 0]] := by decide +kernel

/-- R132: a guard after a reset. -/
theorem test_guardRead : ((taken .guardRead 45 [12] member).lane.ready.map fun r => r.params.take 15) =
    [[0, 12, 0, 2, 0, 6, 32, 0, 192, 7, 208, 20, 0, 0, 0]] := by decide +kernel

/-! ## Witnesses: the posted commands and SCENE_CHECK -/

/-- A member whose feed F5 holds slot 40, with the generator on slot 90 when `gen`. -/
def slotted (gen : Bool) : State :=
  { member with
    level := { member.level with feeds := member.level.feeds.set 5 ⟨some 40, 96, 96⟩ }
    pattern := { member.pattern with genOn := gen, genSlot := 90 } }

theorem witness_EventChainAndPatternSettings_events : ∀ kind ∈ [(9 : Byte), 10],
    (waiting member (entry kind [0, 0x40, 0, 0])).Takes (entry kind [0, 0x40, 0, 0]) [] kind 4 ∧
    member.hold.condition ≠ .quiet := by decide

/-- EventChainAndPatternSettings: thresholds, slots above 127, a slot that a feed holds, a free slot, and off. -/
theorem witness_EventChainAndPatternSettings :
    (waiting member (entry 13 [0, 255])).Takes (entry 13 [0, 255]) [] 13 2 ∧
    (∀ p ∈ [[1, 128, 0, 0, 0, 0], [0, 0, 0, 255, 0, 0], [1, 40, 1, 127, 0, 0], [1, 41, 1, 0, 0, 0], [0, 40, 0, 0, 0, 0]],
      (waiting (slotted false) (entry 16 p)).Takes (entry 16 p) [] 16 6) ∧
    (slotted false).hold.condition ≠ .quiet ∧
    127 < at8 [1, 128, 0, 0, 0, 0] 1 ∧ 127 < at8 [0, 0, 0, 255, 0, 0] 3 ∧
    (at8 [1, 40, 1, 127, 0, 0] 1 = (40 : Fin 128).val ∧ at8 [1, 40, 1, 127, 0, 0] 3 = (127 : Fin 128).val ∧
      at8 [1, 40, 1, 127, 0, 0] 0 ≠ 0 ∧ ((slotted false).level.feeds.get 5).slot = some 40) ∧
    (at8 [1, 41, 1, 0, 0, 0] 1 = (41 : Fin 128).val ∧ at8 [1, 41, 1, 0, 0, 0] 3 = (0 : Fin 128).val ∧
      ∀ f, ((slotted false).level.feeds.get f).slot ≠ some 41) ∧
    at8 [0, 40, 0, 0, 0, 0] 0 = 0 := by decide +kernel

/-- PickupFeedAndGroupSettings: pickup 48, slots 128 and 254; slot NONE and slot 127. -/
theorem witness_PickupFeedAndGroupSettings_pickup :
    let p := fun i slot : Byte => [i, slot, 1, 2, 0, 2, 64, 100, 4, 0, 64, 4]
    (∀ q ∈ [p 48 0, p 0 128, p 0 254, p 47 255, p 0 127],
      (waiting member (entry 20 q)).Takes (entry 20 q) [] 20 12) ∧
    47 < at8 (p 48 0) 0 ∧ (127 < at8 (p 0 128) 1 ∧ at8 (p 0 128) 1 < 255) ∧
    (127 < at8 (p 0 254) 1 ∧ at8 (p 0 254) 1 < 255) ∧
    (at8 (p 47 255) 0 = (47 : Fin 48).val ∧ at8 (p 47 255) 1 = 255) ∧
    (at8 (p 0 127) 0 = (0 : Fin 48).val ∧ at8 (p 0 127) 1 = (127 : Fin 128).val) := by decide +kernel

/-- PickupFeedAndGroupSettings: feed 32 and slot 200; a slot of another feed, the generator's slot; free slot and NONE. -/
theorem witness_PickupFeedAndGroupSettings :
    (∀ p ∈ [[32, 0, 0, 96], [6, 200, 0, 96], [6, 40, 0, 96], [6, 90, 0, 96], [6, 41, 0, 96], [31, 255, 0, 96]],
      (waiting (slotted true) (entry 22 p)).Takes (entry 22 p) [] 22 4) ∧
    31 < at8 [32, 0, 0, 96] 0 ∧ (127 < at8 [6, 200, 0, 96] 1 ∧ at8 [6, 200, 0, 96] 1 < 255) ∧
    (at8 [6, 40, 0, 96] 1 = (40 : Fin 128).val ∧ (5 : Fin 32) ≠ 6 ∧
      ((slotted true).level.feeds.get 5).slot = some 40) ∧
    ((slotted true).pattern.genOn = true ∧ (slotted true).pattern.genSlot = 90) ∧
    ((∀ g, g ≠ (6 : Fin 32) → ((slotted true).level.feeds.get g).slot ≠ some 41) ∧
      (slotted true).pattern.genSlot ≠ 41) ∧
    at8 [31, 255, 0, 96] 1 = 255 ∧
    (waiting member (entry 24 [0, 0, 0, 8, 0, 200, 48])).Takes (entry 24 [0, 0, 0, 8, 0, 200, 48]) [] 24 7 ∧
    (at32 [0, 0, 0, 8, 0, 200, 48] 0).getLsbD 3 = true ∧ (at32 [0, 0, 0, 8, 0, 200, 48] 0).getLsbD 4 = false := by
  decide +kernel

/-- A CORE_SHAPE of core `c` with every length `hi * 256 + lo`. -/
def shape (c hi lo : Byte) : List Byte := c :: (List.replicate 8 [hi, lo]).flatten

/-- A member with a READY scene 4 that references core 0. -/
def coreReady : State := withScene 4 (scene .ready [coreTap]) member

/-- CoreShapeStartsClear: core 4; a locked scene on core 0; lengths of 2,049 (one too many in each line) and of
2,048; a READY scene, a check of a scene on core 0, a check of one that is not, and no check. -/
theorem witness_CoreShapeStartsClear :
    (∀ p ∈ [shape 4 0 64, shape 0 0 64, shape 0 8 1, shape 0 8 0, shape 3 255 255],
      (waiting member (entry 28 p)).Takes (entry 28 p) [] 28 17) ∧
    3 < at8 (shape 4 0 64) 0 ∧ at8 (shape 0 8 1) 0 = (0 : Fin 4).val ∧
    ((busy.scenes.get 1).state.locked = true ∧ (busy.scenes.get 1).references 0 = true) ∧
    (∀ i, ¬((coreReady.scenes.get i).state.locked = true ∧ (coreReady.scenes.get i).references 0 = true)) ∧
    16384 < ((List.finRange 8).map fun l : Fin 8 => max 64 (min 4095 (at16 (shape 0 8 1) (1 + 2 * l.val)))).sum ∧
    ((List.finRange 8).map fun l : Fin 8 => max 64 (min 4095 (at16 (shape 0 8 0) (1 + 2 * l.val)))).sum = 16384 ∧
    (coreReady.scenes.get 4).state = .ready ∧ (coreReady.scenes.get 4).references 0 = true ∧
    ((checking [coreTap]).scenes.get 2).references 0 = true ∧
    ((checking [goodTap]).scenes.get 2).references 0 = false ∧ coreReady.check = none := by decide +kernel

/-- A SCENE_HEAD of scene `i`. -/
def head (i : Byte) : List Byte := [i, 2, 31, 64, 9, 96, 0, 0, 0, 0, 0, 0, 64, 0, 0, 255]

/-- A TAP_WRITE of one good tap into scene `i` at index `first`. -/
def oneTap (i firstHigh firstLow : Byte) : List Byte := [i, firstHigh, firstLow, 1] ++ tapOctets goodTap

/-- SceneEditingChangesTheRecord: scene 4 with one tap: a header, a write that leaves a gap, one at the tap count,
one past index 1,023 of a full scene, and a clear; a check runs of another scene. -/
theorem witness_SceneEditingChangesTheRecord :
    let s := withScene 4 (scene .editing [goodTap]) (checking [goodTap])
    let full := withScene 4 (scene .ready (List.replicate 1024 goodTap)) member
    (waiting s (entry 32 (head 4))).Takes (entry 32 (head 4)) [] 32 16 ∧
    (∀ p ∈ [oneTap 4 0 2, oneTap 4 0 1, oneTap 4 4 0],
      (waiting s (entry 33 p)).Takes (entry 33 p) [] 33 (4 + 8 * at8 p 3) ∧ at8 p 3 ≤ 54 ∧
      at8 p 0 = (4 : Fin 16).val) ∧
    (waiting s (entry 35 [4])).Takes (entry 35 [4]) [] 35 1 ∧
    (s.scenes.get 4).state.locked = false ∧ s.check.map CheckRun.scene ≠ some 4 ∧
    (s.scenes.get 4).taps.length < at16 (oneTap 4 0 2) 1 ∧
    at16 (oneTap 4 0 1) 1 ≤ (s.scenes.get 4).taps.length ∧ (s.scenes.get 4).taps.length ≤ 1024 ∧
    (at16 (oneTap 4 4 0) 1 ≤ (full.scenes.get 4).taps.length ∧ (full.scenes.get 4).taps.length ≤ 1024 ∧
      min 1 (1024 - at16 (oneTap 4 4 0) 1) < 1) ∧
    (at16 (head 4) 2 = 8000 ∧ at16 (head 4) 4 = 2400 ∧ at16 (head 4) 6 = 0) := by decide +kernel

/-- LockedScenesRefuseAndEditsAbortChecks: each command, for the scene being checked, two others, and scene 16. -/
theorem witness_LockedScenesRefuseAndEditsAbortChecks_takes :
    ∀ i ∈ [(0 : Byte), 1, 2, 16],
      (waiting (checking [goodTap]) (entry 32 (head i))).Takes (entry 32 (head i)) [] 32 16 ∧
      (waiting (checking [goodTap]) (entry 33 (oneTap i 0 1))).Takes (entry 33 (oneTap i 0 1)) [] 33 12 ∧
      (waiting (checking [goodTap]) (entry 35 [i])).Takes (entry 35 [i]) [] 35 1 ∧
      (waiting (checking [goodTap]) (entry 36 [i])).Takes (entry 36 [i]) [] 36 1 := by decide +kernel

/-- LockedScenesRefuseAndEditsAbortChecks: scene 16; the ACTIVE, CUED and OUTGOING scenes; the scene being checked,
with a write at its tap count. -/
theorem witness_LockedScenesRefuseAndEditsAbortChecks :
    15 < at8 (head 16) 0 ∧ 4 + 8 * at8 (oneTap 2 0 1) 3 = 12 ∧
    ((busy.scenes.get 0).state.locked = true ∧ (busy.scenes.get 1).state.locked = true ∧
      (fadeEnding.scenes.get 0).state.locked = true) ∧
    (((checking [goodTap]).scenes.get 2).state.locked = false ∧
      (checking [goodTap]).check = some ⟨2, 0, some ⟨5, 7, 36, false⟩⟩ ∧ at8 (head 2) 0 = (2 : Fin 16).val) ∧
    at16 (oneTap 2 0 1) 1 ≤ ((checking [goodTap]).scenes.get 2).taps.length ∧
    at16 (oneTap 2 0 1) 1 + at8 (oneTap 2 0 1) 3 ≤ 1024 := by decide +kernel

/-- LockedScenesRefuseAndEditsAbortChecks: a full list being checked, a write past its end that drops its record, and
a write that leaves a gap after one tap. -/
theorem witness_LockedScenesRefuseAndEditsAbortChecks_drop :
    let full := checking (List.replicate 1024 goodTap)
    (waiting full (entry 33 (oneTap 2 4 0))).Takes (entry 33 (oneTap 2 4 0)) [] 33 12 ∧
    at16 (oneTap 2 4 0) 1 ≤ (full.scenes.get 2).taps.length ∧ min 1 (1024 - at16 (oneTap 2 4 0) 1) < 1 ∧
    (entry 33 (oneTap 2 4 0)).broadcast = false ∧
    ((checking [goodTap]).scenes.get 2).taps.length < at16 (oneTap 2 0 2) 1 := by decide +kernel

/-- SceneCheckStartsOrRefuses: an EMPTY scene, a check that runs, a list with taps, an empty list. -/
theorem witness_SceneCheckStartsOrRefuses :
    let s := withScene 4 (scene .editing [goodTap]) (withScene 5 (scene .editing []) member)
    (∀ i ∈ [(0 : Byte), 4, 5], (waiting s (entry 36 [i])).Takes (entry 36 [i]) [] 36 1) ∧
    s.hold.condition ≠ .quiet ∧ (s.scenes.get 0).state = .empty ∧
    ((s.scenes.get 4).state ≠ .empty ∧ (s.scenes.get 4).taps ≠ [] ∧ s.check = none) ∧
    ((s.scenes.get 5).state ≠ .empty ∧ (s.scenes.get 5).taps = []) ∧
    (∀ i ∈ [(4 : Fin 16), 5], (s.scenes.get i).state.locked = false) ∧
    ((busy.scenes.get 2).state ≠ .empty ∧ (busy.scenes.get 2).state.locked = false ∧ busy.check.isSome = true) := by
  decide +kernel

/-- A CUE of scene `i` for computation 1,000. -/
def cueOf (i : Byte) : List Byte := [i, 0, 0, 3, 232, 0]

/-- CueArmsReplacesAndCancels: scene 16; EMPTY, EDITING, CHECKING, ACTIVE, READY, CUED and OUTGOING scenes; each
cue state. -/
theorem witness_CueArmsReplacesAndCancels :
    (∀ i ∈ [(0 : Byte), 1, 2, 3, 4, 16],
      (waiting coreReady (entry 40 (cueOf i))).Takes (entry 40 (cueOf i)) [] 40 6) ∧
    15 < at8 (cueOf 16) 0 ∧ at8 (cueOf 4) 0 = (4 : Fin 16).val ∧
    ((busy.scenes.get 9).state = .empty ∧ (busy.scenes.get 2).state = .checking ∧
      (busy.scenes.get 0).state = .active ∧ (busy.scenes.get 1).state = .cued) ∧
    ((coreReady.scenes.get 4).state = .ready ∧ (fadeEnding.scenes.get 0).state = .outgoing) ∧
    (waiting member (entry 41 [])).Takes (entry 41 []) [] 41 0 ∧
    (member.cue.state = .idle ∧ armed.cue.state = .armed ∧ fadeEnding.cue.state = .fadingArmed) := by decide +kernel

theorem witness_CueArmsReplacesAndCancels_lawful :
    coreReady.SceneLaw ∧ armed.SceneLaw ∧ fadeEnding.SceneLaw ∧ busy.SceneLaw :=
  ⟨by decide +kernel, by decide +kernel, by decide +kernel, by decide +kernel⟩

/-- A GUARD_SET of feed 12 with enable `on` and limit `limit`, every other parameter below its range. -/
def guardSet (on limit : Byte) : List Byte := [0, 0, 16, 0, on, 2, 0, 0, 0, 0, limit, 0, 0, 0, 0]

/-- GuardSetReplacesParameters: a feed of the mask and one outside it; on and off before and after; a limit of 0
under a RECOVER trim. -/
theorem witness_GuardSetReplacesParameters :
    (∀ p ∈ [guardSet 0 192, guardSet 1 192, guardSet 1 0],
      (waiting member (entry 44 p)).Takes (entry 44 p) [] 44 15) ∧
    member.hold.condition ≠ .quiet ∧ (at32 (guardSet 1 192) 0).getLsbD 12 = true ∧
    (at32 (guardSet 1 192) 0).getLsbD 11 = false ∧ howlGuard.enable = true ∧ (member.guards.get 12).enable = false ∧
    at8 (guardSet 0 192) 4 = 0 ∧ at8 (guardSet 1 0) 4 ≠ 0 ∧ min 512 (at16 (guardSet 1 0) 9) = 0 ∧
    (let g : Guard := { howlGuard with state := .recover, trim := 32, count := 4 }
     g.state = .recover ∧ 0 < g.trim) := by decide +kernel

theorem witness_HoldResumeAndQuiet :
    (∀ kind ∈ [(48 : Byte), 49, 3], (waiting busy (entry kind [])).Takes (entry kind []) [] kind 0) ∧
    busy.hold.condition ≠ .quiet ∧ busy.check.isSome = true ∧ member.check = none ∧
    busy.hold.state = .running ∧
    ({ busy with hold := { busy.hold with guard := true } } : State).hold.guard = true := by decide +kernel

/-! ## Tests: the posted commands and SCENE_CHECK -/

/-- R155: counters, queues and settings go; the chain stays. -/
theorem test_nodeReset : (taken .nodeReset 2 [1, 2, 3] busy).events = Events.reset ∧
    (taken .nodeReset 2 [1, 2, 3] busy).chain.expected = 100 ∧
    (taken .nodeReset 2 [1, 2, 3] busy).lane.ready = [] := by decide +kernel

/-- R151: QUIET holds the part at once and aborts the check. -/
theorem test_quiet : (taken .quiet 3 [] busy).hold.state = .held ∧ (taken .quiet 3 [] busy).level.hold = 1024 ∧
    ((taken .quiet 3 [] busy).scenes.get 2).state = .editing := by decide +kernel

/-- R153: WAKE is a node reset in QUIET and nothing in RUNNING. -/
theorem test_wake : (taken .wake 4 [] quietMember).hold.condition = .running ∧
    (taken .wake 4 [] quietMember).events.latched .restarted = true ∧
    (taken .wake 4 [] busy).scenes = busy.scenes := by decide +kernel

/-- R187: RESTARTED cleared by its mask bit. -/
theorem test_eventsClear : (taken .eventsClear 9 [0, 0x40, 0, 0] leader).events.latch = 0 := by decide +kernel

/-- R187: a masked event gives no ATTENTION. -/
theorem test_eventsMask : (taken .eventsMask 10 [0, 0x40, 0, 0] member).events.attention = false ∧
    member.events.attention = true := by decide +kernel

/-- R6: thresholds clamped to 8..255 and 2..64. -/
theorem test_chainSet : ((taken .chainSet 13 [3, 200] member).chain.lockG,
    (taken .chainSet 13 [3, 200] member).chain.lockB) = (8, 64) := by decide +kernel

/-- R178, R192: the generator takes a free slot, and is refused a feed's. -/
theorem test_patternSet : (taken .patternSet 16 [1, 41, 1, 7, 0, 0] (slotted false)).pattern.threshold = 1 ∧
    status (taken .patternSet 16 [1, 40, 1, 7, 0, 0] (slotted false)) = some 4 := by decide +kernel

/-- R39: codes clamped, the close code raised to the open code. -/
theorem test_pickupSet :
    let p := (taken .pickupSet 20 [7, 20, 1, 255, 255, 0, 9, 3, 1, 0, 64, 16] member).pickups.get 7
    (p.slot, p.openCode, p.closeCode, p.floorCode) = (some 20, 1024, 1024, 256) := by decide +kernel

/-- Section 11.6, steps 1 to 3. -/
theorem test_feedSet : status (taken .feedSet 22 [6, 40, 0, 96] (slotted false)) = some 4 ∧
    status (taken .feedSet 22 [6, 200, 0, 96] (slotted false)) = some 3 ∧
    ((taken .feedSet 22 [6, 41, 0, 96] (slotted false)).level.feeds.get 6) = ⟨some 41, 1024, 96⟩ := by decide +kernel

/-- Section 2.4.1, step 0. -/
theorem test_groupSet : (taken .groupSet 24 [0, 0, 0, 8, 0, 200, 48] member).level.groups.get 3 =
    ⟨0, 200, 48, .falling⟩ := by decide +kernel

/-- R77, R79: a sum of 16,384 is taken and demotes a READY scene; a longer one is refused. -/
theorem test_coreShape :
    ((taken .coreShape 28 (shape 0 8 0) coreReady).cores.get 0).state = .shaping ∧
    ((taken .coreShape 28 (shape 0 8 0) coreReady).scenes.get 4).state = .editing ∧
    status (taken .coreShape 28 (shape 0 8 1) coreReady) = some 7 ∧
    status (taken .coreShape 28 (shape 0 8 0) (withScene 1 (scene .cued [coreTap]) member)) = some 6 := by decide +kernel

/-- R97, R103: the header of a worked scene; the damping clamped to 240. -/
theorem test_sceneHead :
    let sc := (taken .sceneHead 32 (head 4) member).scenes.get 4
    (sc.state, sc.header.fadeCode, sc.header.wander, sc.header.decay.get 0, sc.header.damping.get 3) =
      (.editing, 2, 8000, 2400, 240) := by decide +kernel

/-- R101, R102: a write at the tap count extends the list; one beyond it leaves a gap. -/
theorem test_tapWrite :
    ((taken .tapWrite 33 (oneTap 4 0 0) member).scenes.get 4).taps = [goodTap] ∧
    status (taken .tapWrite 33 (oneTap 4 0 1) member) = some 9 ∧
    ((taken .tapWrite 33 (oneTap 4 4 0) (withScene 4 (scene .ready (List.replicate 1024 goodTap)) member)).lane.ready.map
      fun r => r.params) = [[0, 4, 4, 0, 0]] := by decide +kernel

/-- R102, R105, R111: an edit of the scene being checked: ABORTED, then the write, then the reply of its drop. -/
theorem test_edit_while_checking :
    let t := taken .tapWrite 33 (oneTap 2 4 0) (checking (List.replicate 1024 goodTap))
    t.lane.ready = [⟨5, 164, 7, [14, 2]⟩, ⟨5, 161, 0x77, [0, 2, 4, 0, 0]⟩] ∧
    (t.scenes.get 2).taps.length = 1024 ∧ (t.scenes.get 2).state = .editing ∧
    ((taken .sceneHead 32 (head 2) (checking [goodTap])).scenes.get 2).header.fadeCode = 2 := by decide +kernel

/-- R104: the scene is EMPTY again. -/
theorem test_sceneClear : ((taken .sceneClear 35 [4] coreReady).scenes.get 4) = Scene.reset := by decide +kernel

/-- R107: an entry is reserved for the check; a list of no taps passes at once. -/
theorem test_sceneCheck :
    (taken .sceneCheck 36 [4] coreReady).freeReplies = 3 ∧
    ((taken .sceneCheck 36 [4] coreReady).scenes.get 4).state = .checking ∧
    ((taken .sceneCheck 36 [5] (withScene 5 (scene .editing []) member)).lane.ready.map fun r => r.params) =
      [[12, 5, 0, 0]] := by decide +kernel

/-- R91, R117: a cue arms its scene and the targets of every core. -/
theorem test_cue :
    let t := taken .cue 40 (cueOf 4) coreReady
    (t.scenes.get 4).state = .cued ∧ t.cue.state = .armed ∧ t.cue.frameX = 1000 ∧
    ((t.cores.get 3).armed.isSome = true) ∧ status (taken .cue 40 (cueOf 5) coreReady) = some 8 := by decide +kernel

/-- R100, R120: the CUED scene becomes READY. -/
theorem test_cueCancel : ((taken .cueCancel 41 [] armed).scenes.get 1).state = .ready ∧
    (taken .cueCancel 41 [] armed).cue.state = .idle := by decide +kernel

/-- R133: parameters below their ranges are raised. -/
theorem test_guardSet :
    let g := (taken .guardSet 44 (guardSet 1 192) member).guards.get 12
    (g.enable, g.floorCode, g.rise, g.cutStep, g.limit, g.quietHold, g.interval) =
      (true, 512, 2, 8, 192, 100, 1) := by decide +kernel

/-- R146, R148: MESSAGE drives HOLD_N. -/
theorem test_hold : (taken .hold 48 [] member).drivesHoldN = true := by decide +kernel

/-- R149: RESUME empties the set of a node just reset. -/
theorem test_resume : (taken .resume 49 [] leader).hold.any = false ∧ leader.hold.any = true := by decide +kernel

/-! ## Tests: the Howl Guard, the lane and the pattern checker -/

/-- R31 to R33: a feed trim of 0 and a value beyond full scale: out saturates, and its feed is counted. -/
theorem test_output_saturates :
    let s : State := { withScene 0 (scene .active [{ goodTap with delay := 1 }, { goodTap with delay := 1 }]) member with
      level := { member.level with feeds := member.level.feeds.set 5 ⟨some 40, 0, 0⟩ }
      delay := member.delay.set 3 [(92, 0x7FFFFF)]
      taps := { member.taps with gainActive := some [8388608, 8388608] } }
    ((s.computeOuts 93).get 5).toInt = 8388607 ∧ (s.compute 93).events.feedClips = 1 := by decide +kernel

/-- R5, R7, R42, R156: a missing sync pattern at Port U: its count, the message it breaks and the concealed computation
it paces, and no other event. -/
theorem test_events_of_bad_frame :
    let s := (inner.takeSegment 92 ⟨2, ⟨[3, 33, 7, 0, 12, 4, 0], rfl⟩⟩)
    let t := after (.syncMissingPeriod .U false) { s with chain := { s.chain with syncU := true } }
    t.events = { s.events with
      latch := s.events.latch ||| 0xA8#23, badU := 1, broken := 1, concealed := 1 } := by decide +kernel

/-- R10, R12: the leader in END reads the frame it has turned around. -/
theorem test_own_return_pass : let s := after (.frameOriginate false) leader
    (s.buffer.get 0).valid = true ∧ s.lane.record.get 0 = some ⟨0, true⟩ := by decide +kernel

/-- R108: a check of 65 taps needs a second computation. -/
theorem test_check_advances : let s := checking (List.replicate 65 goodTap)
    (s.advanceCheck.check.map CheckRun.next, s.advanceCheck.advanceCheck.check) = (some 64, none) := by decide +kernel

/-- R147: HOLD_ENTERED on entry into ISOLATED from RUNNING. -/
theorem test_isolated_holdEntered :
    (after (.lineActivityLost .U) member).events.latched .holdEntered = true ∧
    member.events.latched .holdEntered = false := by decide +kernel

/-- R138, R141: a cut found at its limit latches HOWL_CUT and HOWL_LIMIT and adds GUARD. -/
theorem test_howl_at_limit : let t := howling.tickGuard fun _ => false
    (t.hold.guard, t.events.latched .howlCut, t.events.latched .howlLimit) = (true, true, true) ∧
    (t.guards.get 12).trim = 192 ∧ t.taps.peaks.get 12 = 0 := by decide +kernel

/-- R146: the line low, with nothing held by this part, adds LINE alone. -/
theorem test_sampleHold : ((member.setHoldPulled true).sampleHold.hold.line,
    ((member.setHoldPulled true).sampleHold.setHoldPulled false).sampleHold.hold.line) = (true, false) := by decide

/-- Section 10.8, steps 1 and 2: FIRST is held; the loss of the expected frame breaks it. -/
theorem test_message_broken :
    let s := member.takeSegment 100001 ⟨2, ⟨[3, 33, 7, 0, 12, 4, 0], rfl⟩⟩
    ((s.lane.contexts.get 1).map fun a => (a.segments, a.expected)) = some (1, 100017) ∧
    (s.takeLoss 100017).lane.contexts.get 1 = none ∧ (s.takeLoss 100017).events.broken = 1 ∧
    (s.takeLoss 100017).events.latched .laneBroken = true := by decide +kernel

/-- Section 12.4, step 4: a word with three bits inverted in IN_SYNC. -/
theorem test_pattern_error :
    let p : Pattern := { Pattern.reset with chkOn := true, inSync := true, predictor := BitVec.allOnes 23, lastFrame := 50006 }
    p.errs 50007 (0x3E#24 ^^^ 0x7#24) = true ∧ bitsDiffering (0x3E#24 ^^^ 0x7#24) (p.predicted 50007) = 3 ∧
    (p.take 50007 (0x3E#24 ^^^ 0x7#24)).mismatchRun = 1 ∧ (p.take 50007 0x3E#24).mismatchRun = 0 := by decide +kernel

end Sys2Proof.Tests
end

section
/-!
PROOFS. What the chain's law and the queue of waiting commands look at (`State.chainView`), and that the lane commands
leave it as it was, but for QUIET, NODE_RESET, WAKE and CHAIN_SET.
-/

namespace Sys2Proof.Machine

/-- The pins, the Chain Interface, the node condition and the queue of waiting commands. -/
def State.chainView (s : State) : Pins × Chain × Condition × List Instr :=
  (s.pins, s.chain, s.hold.condition, s.pending)

theorem State.chainView_eq_iff {s t : State} : t.chainView = s.chainView ↔
    t.pins = s.pins ∧ t.chain = s.chain ∧ t.hold.condition = s.hold.condition ∧ t.pending = s.pending := by
  simp [State.chainView]

/-- `P` speaks of what is in view alone. -/
def ReadsChainView (P : State → Prop) : Prop := ∀ s t : State, t.chainView = s.chainView → P s → P t

/-- R162: a verdict whose taken state has `P`. -/
def Verdict.Leaves (P : State → Prop) : Verdict → Prop
  | .refused _ => True
  | .taken t _ => P t

@[simp] theorem Verdict.leaves_refused (P : State → Prop) (st : Status) : (Verdict.refused st).Leaves P := trivial
@[simp] theorem Verdict.leaves_taken (P : State → Prop) (t : State) (r : Option (Status × List Byte)) :
    (Verdict.taken t r).Leaves P ↔ P t := Iff.rfl
@[simp] theorem Verdict.leaves_applied (P : State → Prop) (t : State) : (applied t).Leaves P ↔ P t := Iff.rfl
@[simp] theorem Verdict.leaves_answered (P : State → Prop) (t : State) (d : List Byte) :
    (answered t d).Leaves P ↔ P t := Iff.rfl

section
variable {P : State → Prop} (hP : ReadsChainView P)
include hP

theorem State.settle_leaves {e : Entry} {s : State} {v : Verdict} (hs : P s) (hv : v.Leaves P) :
    P (s.settle e v) := by
  cases v with
  | refused st =>
    rw [State.settle_refused]
    split <;> exact hP s _ (by simp [State.chainView]) hs
  | taken t r =>
    cases r with
    | none => exact hv
    | some r =>
      simp only [State.settle]
      split
      · exact hv
      · exact hP t _ (by simp [State.chainView]) hv

theorem State.carryOut_leaves {query : Bool} {judge : Entry → State → Verdict} {e : Entry} {s : State} (hs : P s)
    (hj : ∀ s e, P s → (judge e s).Leaves P) : P (s.carryOut query judge e) := by
  rcases State.carryOut_cases query judge e s with ⟨_, _, h⟩ | ⟨_, h⟩ <;> rw [h]
  · exact hP s _ (by simp [State.chainView]) hs
  · exact State.settle_leaves hP hs (hj _ _ hs)

/-- A lane command row keeps what its judgement leaves. -/
theorem State.laneCommand_leaves {s : State} {kind : Byte} {query : Bool} {judge : Entry → State → Verdict}
    {t : Taking} (hs : P s) (hj : ∀ s e, P s → (judge e s).Leaves P) : P (s.laneCommand kind query judge t) := by
  have offered : ∀ m : LaneMessage, P (s.offer m.source kind m.tag m.params m.broadcast) := fun m =>
    hP s _ (by simp [State.chainView]) hs
  have popped : ∀ (u : State) (rest : List Entry), P u → P (u.popQueue rest) := fun u rest hu =>
    hP u _ (by simp [State.chainView]) hu
  rcases s.laneCommand_cases kind query judge t with h | ⟨m, _, h⟩ | ⟨e, rest, _, _, _, _, h⟩ | ⟨m, _, _, h⟩ <;> rw [h]
  · exact hs
  · exact offered m
  · exact State.carryOut_leaves hP (popped _ _ hs) hj
  · exact State.carryOut_leaves hP (popped _ _ (offered m)) hj

end

/-- R176: what the condition and length tests let through. -/
theorem judged_leaves {P : State → Prop} {inQuiet : Bool} {n : Nat} {judge : List Byte → State → Verdict} {e : Entry}
    {s : State} (hj : (judge e.params s).Leaves P) : (judged inQuiet n judge e s).Leaves P := by
  rcases judged_cases inQuiet n judge e s with ⟨_, _, h⟩ | ⟨_, _, h⟩ | ⟨_, _, h⟩ <;> rw [h]
  · trivial
  · trivial
  · exact hj

/-- R101, R103, R104: what the scene tests let through. -/
theorem onUnlocked_leaves {P : State → Prop} {x : Nat} {s : State} {act : Fin 16 → Verdict}
    (ha : ∀ i, (act i).Leaves P) : (onUnlocked x s act).Leaves P := by
  unfold onUnlocked
  split
  · trivial
  · split
    · trivial
    · exact ha _

/-- A judgement leaves what is in view as it was. -/
def KeepsView (judge : List Byte → State → Verdict) : Prop :=
  ∀ p s, (judge p s).Leaves fun t => t.chainView = s.chainView

theorem judgePatternSet_keepsView : KeepsView judgePatternSet := fun p s => by
  unfold judgePatternSet
  split
  · split <;> simp [State.chainView]
  · trivial

theorem judgePatternRead_keepsView : KeepsView judgePatternRead := fun p s => by
  unfold judgePatternRead
  split <;> simp [State.chainView]

theorem judgePickupSet_keepsView : KeepsView judgePickupSet := fun p s => by
  unfold judgePickupSet
  split <;> simp [State.chainView]

theorem judgePickupRead_keepsView : KeepsView judgePickupRead := fun p s => by
  unfold judgePickupRead
  split <;> simp

theorem judgeFeedSet_keepsView : KeepsView judgeFeedSet := fun p s => by
  unfold judgeFeedSet
  split
  · split <;> simp [State.chainView]
  · trivial

theorem judgeFeedRead_keepsView : KeepsView judgeFeedRead := fun p s => by
  unfold judgeFeedRead
  split <;> simp

theorem judgeCoreShape_keepsView : KeepsView judgeCoreShape := fun p s => by
  unfold judgeCoreShape
  split
  · trivial
  · dsimp only
    split
    · trivial
    · split <;> simp [State.chainView]

theorem judgeCoreRead_keepsView : KeepsView judgeCoreRead := fun p s => by
  unfold judgeCoreRead
  split <;> simp

theorem judgeTapWrite_keepsView : KeepsView judgeTapWrite := fun p s => by
  unfold judgeTapWrite
  dsimp only
  split
  · trivial
  · exact onUnlocked_leaves fun i => by split <;> simp [State.chainView]

theorem judgeSceneCheck_keepsView (e : Entry) : KeepsView (judgeSceneCheck e) := fun p s => by
  refine onUnlocked_leaves fun i => ?_
  split
  · trivial
  · split
    · trivial
    · unfold startCheck
      split <;> simp [State.chainView]

theorem judgeSceneRead_keepsView : KeepsView judgeSceneRead := fun p s => by
  unfold judgeSceneRead
  split <;> simp

theorem judgeTapRead_keepsView : KeepsView judgeTapRead := fun p s => by
  unfold judgeTapRead
  split <;> simp

theorem judgeCue_keepsView : KeepsView judgeCue := fun p s => by
  unfold judgeCue
  split
  · trivial
  · split <;> simp [State.chainView]

theorem judgeGuardRead_keepsView : KeepsView judgeGuardRead := fun p s => by
  unfold judgeGuardRead
  split <;> simp

/-- A lane command row whose judgement leaves the view leaves the view. -/
theorem State.laneCommand_view {kind : Byte} {query : Bool} {judge : Entry → State → Verdict} (t : Taking) (s : State)
    (hj : ∀ e u, (judge e u).Leaves fun v => v.chainView = u.chainView) :
    (s.laneCommand kind query judge t).chainView = s.chainView := by
  refine State.laneCommand_leaves (P := fun u => u.chainView = s.chainView) (fun a b h ha => h.trans ha) rfl ?_
  intro u e hu
  have := hj e u
  rwa [hu] at this

/-- The same for a judgement behind the condition and length tests. -/
theorem State.laneCommand_judged_view {kind : Byte} {query inQuiet : Bool} {n : Nat}
    {judge : List Byte → State → Verdict} (hj : KeepsView judge) (t : Taking) (s : State) :
    (s.laneCommand kind query (judged inQuiet n judge) t).chainView = s.chainView :=
  State.laneCommand_view t s fun e u => judged_leaves (hj e.params u)

end Sys2Proof.Machine
end

section
/-!
PROOFS. What the holds, a computation and the frame periods do to the Hold Controller and to the Chain Interface.
-/

namespace Sys2Proof.Machine

variable (s : State)

/-! ## The Hold Controller -/

/-- R147: forming the hold state changes the hold state alone. -/
@[simp] theorem State.formHold_hold :
    s.formHold.hold = { s.hold with state := holdStateOf s.hold.any s.level.hold } := by
  simp [State.formHold]

/-- R36: holding at once changes the hold state alone. -/
@[simp] theorem State.holdAtOnce_hold :
    s.holdAtOnce.hold = { s.hold with state := holdStateOf s.hold.any 1024 } := by
  simp [State.holdAtOnce]

/-- R23: at a tick the hold state is formed from the set and the level as it has moved. -/
@[simp] theorem State.rampTick_hold (b : Bool) :
    (s.rampTick b).hold = { s.hold with state := holdStateOf s.hold.any (s.level.tick s.hold.any).hold } := by
  simp [State.rampTick]

/-- R146: the beginning of a computation samples HOLD_N, and may form the hold state. -/
theorem State.beginComputation_hold (k : FrameNo) :
    (s.beginComputation k).hold =
      { s.hold with line := s.holdNLow, state := (s.beginComputation k).hold.state } := by
  unfold State.beginComputation
  dsimp only
  split <;> simp

/-- R141: the Howl Guard may add GUARD, and changes nothing else of the set. -/
theorem State.tickGuard_hold (m : Fin 32 → Bool) :
    (s.tickGuard m).hold = { s.hold with guard := (s.tickGuard m).hold.guard } := by
  simp [State.tickGuard]

/-- R146, R141, R147: a computation samples HOLD_N, and may form the hold state and add GUARD. -/
theorem State.compute_hold (k : FrameNo) :
    (s.compute k).hold = { s.hold with
      line := s.holdNLow, state := (s.compute k).hold.state, guard := (s.compute k).hold.guard } := by
  have hb := s.beginComputation_hold k
  unfold State.compute
  dsimp only
  split
  · rw [State.tickGuard_hold, State.runSamples_frame .. |>.2.2.2.2.2.2.1, hb]
  · simp only [State.runSamples_frame]
    rw [hb]

@[simp] theorem State.compute_condition (k : FrameNo) : (s.compute k).hold.condition = s.hold.condition := by
  rw [State.compute_hold]

@[simp] theorem State.compute_link (k : FrameNo) : (s.compute k).hold.link = s.hold.link := by
  rw [State.compute_hold]

/-- R15: entry into ISOLATED from RUNNING; the other conditions stand. -/
@[simp] theorem State.isolate_condition :
    s.isolate.hold.condition = if s.hold.condition = .running then .isolated else s.hold.condition := by
  unfold State.isolate
  cases h : s.hold.condition <;> simp [h]

/-! ## The loss of the upstream side -/

@[simp] theorem State.loseUpstream_chain :
    s.loseUpstream.chain = { s.chain with turnaround := .detached, discard := false, switchOpen := false } := by
  simp [State.loseUpstream]

@[simp] theorem State.loseUpstream_condition :
    s.loseUpstream.hold.condition = if s.hold.condition = .running then .isolated else s.hold.condition := by
  simp [State.loseUpstream]

@[simp] theorem State.unlockU_chain (p : PortRx) :
    (s.unlockU p).chain =
      { s.chain with portU := p, turnaround := .detached, discard := false, switchOpen := false } := by
  simp [State.unlockU]

@[simp] theorem State.unlockU_condition (p : PortRx) :
    (s.unlockU p).hold.condition = if s.hold.condition = .running then .isolated else s.hold.condition :=
  State.loseUpstream_condition _

/-! ## Port D -/

@[simp] theorem State.settleTurnaround_chain : s.settleTurnaround.chain = s.chain.settleTurnaround := by
  simp [State.settleTurnaround]

@[simp] theorem State.setPortD_chain (p : PortRx) :
    (s.setPortD p).chain = ({ s.chain with portD := p } : Chain).settleTurnaround := by
  simp [State.setPortD]

/-- R10, R12, R13: the passing of a good return frame sends nothing new, or sends on Port U and may clear the mark. -/
theorem State.passGoodReturn_chain (f : Frame) (o : List Byte) :
    (s.passGoodReturn f o).chain = s.chain ∨
    ∃ d u, (s.passGoodReturn f o).chain =
        { s.chain with discard := d, txU := if s.chain.leader then none else u } ∧
      (d = true → s.chain.discard = true) := by
  unfold State.passGoodReturn
  split
  · exact .inr ⟨s.chain.discard, some o, by simp, id⟩
  · exact .inl rfl
  · split
    · exact .inr ⟨s.chain.discard, none, by simp, id⟩
    · exact .inr ⟨false, some o, by simp, nofun⟩

/-- R12, R16: the passing of a bad return frame sends nothing new, or sends it on Port U. -/
theorem State.passBadReturn_chain (o : Option (List Byte)) :
    (s.passBadReturn o).chain =
      if s.chain.turnaround = .chainEnd then s.chain
      else { s.chain with txU := if s.chain.leader then none else o } := by
  unfold State.passBadReturn
  split <;> simp [*]

/-! ## Handled frames -/

@[simp] theorem State.countFrame_chain (n : FrameNo) : (s.countFrame n).chain = s.chain.countHandled n := by
  simp [State.countFrame]

@[simp] theorem State.paceFrame_chain (n : FrameNo) : (s.paceFrame n).chain = s.chain.countHandled n := by
  unfold State.paceFrame
  split <;> simp

@[simp] theorem State.paceFrame_condition (n : FrameNo) : (s.paceFrame n).hold.condition = s.hold.condition := by
  unfold State.paceFrame
  split <;> simp

@[simp] theorem State.paceFrame_link (n : FrameNo) : (s.paceFrame n).hold.link = s.hold.link := by
  unfold State.paceFrame
  split <;> simp

/-- R190: a frame period advances the generator and nothing else of the pattern unit. -/
@[simp] theorem State.paceFrame_pattern (n : FrameNo) : (s.paceFrame n).pattern = s.pattern.generate := by
  unfold State.paceFrame
  split <;> simp

/-- R9: the frame that the handling of `f` sends on Port D. -/
def State.handledFrame (f : Frame) (s : State) : Frame :=
  (s.paceFrame f.number).writtenFrame f (s.paceOuts f.number) (streamWord s.pattern.history)

/-- R9: the state once that frame is on Port D. -/
def State.sentFrame (f : Frame) (s : State) : State :=
  ((s.paceFrame f.number).afterWrites f).sendD (some (s.handledFrame f).octets)

@[simp] theorem State.sentFrame_chain (f : Frame) : (s.sentFrame f).chain =
    { s.chain.countHandled f.number with txD := some (s.handledFrame f).octets } := by
  simp [State.sentFrame]

/-- R12: in END the frame is turned around and read, else it is not. -/
theorem State.handleGood_eq (f : Frame) : s.handleGood f =
    if s.chain.turnaround = .chainEnd then
      State.readReturn ((s.handledFrame f).turnedBy s.chain.address)
        ((s.sentFrame f).sendU (some ((s.handledFrame f).turnedBy s.chain.address).octets))
    else s.sentFrame f := by
  have ht : (s.sentFrame f).chain.turnaround = s.chain.turnaround := by simp [Chain.countHandled]
  rw [← ht]
  rfl

/-- R9, R12, R13: what a handled good frame does to the Chain Interface. -/
theorem State.handleGood_chain (f : Frame) : (s.handleGood f).chain = { s.chain.countHandled f.number with
    txD := some (s.handledFrame f).octets
    txU := if s.chain.turnaround = .chainEnd then
        (if s.chain.leader then none else some ((s.handledFrame f).turnedBy s.chain.address).octets)
      else s.chain.txU } := by
  rw [State.handleGood_eq]
  split <;> simp [Chain.countHandled]

@[simp] theorem State.sentFrame_condition (f : Frame) : (s.sentFrame f).hold.condition = s.hold.condition := by
  simp [State.sentFrame]

@[simp] theorem State.handleGood_condition (f : Frame) : (s.handleGood f).hold.condition = s.hold.condition := by
  rw [State.handleGood_eq]
  split <;> simp

@[simp] theorem State.handleGood_link (f : Frame) : (s.handleGood f).hold.link = s.hold.link := by
  rw [State.handleGood_eq]
  split <;> simp [State.sentFrame]

/-- R7, R12, R13: what a handled bad frame does to the Chain Interface. -/
theorem State.handleBad_chain (n : FrameNo) (o : Option (List Byte)) : (s.handleBad n o).chain =
    { s.chain.countHandled n with
      txD := o
      txU := if s.chain.turnaround = .chainEnd then (if s.chain.leader then none else o) else s.chain.txU } := by
  unfold State.handleBad
  simp only [State.sendD_chain, State.missTurn_frame, State.paceFrame_chain]
  split <;> simp_all [Chain.countHandled]

@[simp] theorem State.handleBad_condition (n : FrameNo) (o : Option (List Byte)) :
    (s.handleBad n o).hold.condition = s.hold.condition := by
  unfold State.handleBad
  dsimp only
  split <;> simp

end Sys2Proof.Machine
end

section
/-!
PROOFS. What every command leaves of what is in view: the lane commands and the events inside the blocks leave all of
it, but for the four that set it.
-/

namespace Sys2Proof.Machine

/-- The rows of the pins, lines and frames, and the lane commands that set the condition or the thresholds. -/
def movesView : Instr → Bool
  | .powerOnReset _ _ | .powerOnResetHeld | .lineActivityAppears _ | .lineActivityLost _ => true
  | .frameOriginate _ | .outboundFrameReceive _ _ | .syncMissingPeriod _ _ | .returnFrameReceive _ => true
  | .discardMarkExpire | .nodeReset _ | .quiet _ | .wake _ | .chainSet _ => true
  | _ => false

/-- An event inside a block that leaves the view leaves it whether or not a computation runs. -/
theorem State.whileComputing_view {s t : State} (h : t.chainView = s.chainView) :
    (s.whileComputing t).chainView = s.chainView := by
  rcases s.whileComputing_cases t with ⟨_, e⟩ | ⟨_, e⟩ <;> rw [e]
  exact h

/-- Every other command answers a next state in which what is in view stands. -/
theorem exec_keeps_view (c : Instr) (s : State) (h : movesView c = false) :
    ∃ t, exec c s = .next t ∧ t.chainView = s.chainView := by
  cases c with
  | powerOnReset _ _ | powerOnResetHeld | lineActivityAppears _ | lineActivityLost _ | frameOriginate _
  | outboundFrameReceive _ _ | syncMissingPeriod _ _ | returnFrameReceive _ | discardMarkExpire
  | nodeReset _ | quiet _ | wake _ | chainSet _ => cases h
  | coreShaped c => exact ⟨_, rfl, State.whileComputing_view rfl⟩
  | checkPass =>
    refine ⟨_, rfl, State.whileComputing_view ?_⟩
    split
    · rfl
    · split <;> simp [State.chainView]
  | checkFail =>
    refine ⟨_, rfl, State.whileComputing_view ?_⟩
    split
    · rfl
    · split <;> simp [State.chainView]
  | cueFire k => exact ⟨_, rfl, State.whileComputing_view (by split <;> simp [State.chainView])⟩
  | gateHangExpire i => exact ⟨_, rfl, State.whileComputing_view rfl⟩
  | crossfadeEnd => exact ⟨_, rfl, State.whileComputing_view (by split <;> rfl)⟩
  | quietHoldExpire f => exact ⟨_, rfl, State.whileComputing_view rfl⟩
  | recoveryStep f => exact ⟨_, rfl, State.whileComputing_view rfl⟩
  | badKindCommand k t =>
    refine ⟨_, rfl, ?_⟩
    split
    · exact State.laneCommand_view t s fun _ _ => trivial
    · rfl
  | identify t => exact ⟨_, rfl, State.laneCommand_judged_view (fun _ _ => by exact rfl) t s⟩
  | eventsRead t => exact ⟨_, rfl, State.laneCommand_judged_view (fun _ _ => by exact rfl) t s⟩
  | eventsClear t => exact ⟨_, rfl, State.laneCommand_judged_view (fun _ _ => by exact rfl) t s⟩
  | eventsMask t => exact ⟨_, rfl, State.laneCommand_judged_view (fun _ _ => by exact rfl) t s⟩
  | chainRead t => exact ⟨_, rfl, State.laneCommand_judged_view (fun _ _ => by exact rfl) t s⟩
  | patternSet t => exact ⟨_, rfl, State.laneCommand_judged_view judgePatternSet_keepsView t s⟩
  | patternRead t => exact ⟨_, rfl, State.laneCommand_judged_view judgePatternRead_keepsView t s⟩
  | pickupSet t => exact ⟨_, rfl, State.laneCommand_judged_view judgePickupSet_keepsView t s⟩
  | pickupRead t => exact ⟨_, rfl, State.laneCommand_judged_view judgePickupRead_keepsView t s⟩
  | feedSet t => exact ⟨_, rfl, State.laneCommand_judged_view judgeFeedSet_keepsView t s⟩
  | feedRead t => exact ⟨_, rfl, State.laneCommand_judged_view judgeFeedRead_keepsView t s⟩
  | groupSet t => exact ⟨_, rfl, State.laneCommand_judged_view (fun _ _ => by exact rfl) t s⟩
  | groupRead t => exact ⟨_, rfl, State.laneCommand_judged_view (fun _ _ => by exact rfl) t s⟩
  | coreShape t => exact ⟨_, rfl, State.laneCommand_judged_view judgeCoreShape_keepsView t s⟩
  | coreRead t => exact ⟨_, rfl, State.laneCommand_judged_view judgeCoreRead_keepsView t s⟩
  | sceneHead t =>
    exact ⟨_, rfl, State.laneCommand_judged_view
      (fun _ _ => onUnlocked_leaves fun i => by simp [State.chainView]) t s⟩
  | tapWrite t =>
    refine ⟨_, rfl, State.laneCommand_view t s fun e u => ?_⟩
    split
    · trivial
    · exact judgeTapWrite_keepsView e.params u
  | tapRead t => exact ⟨_, rfl, State.laneCommand_judged_view judgeTapRead_keepsView t s⟩
  | sceneClear t =>
    exact ⟨_, rfl, State.laneCommand_judged_view
      (fun _ _ => onUnlocked_leaves fun i => by simp [State.chainView]) t s⟩
  | sceneCheck t =>
    exact ⟨_, rfl, State.laneCommand_view t s fun e u =>
      judged_leaves (judgeSceneCheck_keepsView e e.params u)⟩
  | sceneRead t => exact ⟨_, rfl, State.laneCommand_judged_view judgeSceneRead_keepsView t s⟩
  | cue t => exact ⟨_, rfl, State.laneCommand_judged_view judgeCue_keepsView t s⟩
  | cueCancel t => exact ⟨_, rfl, State.laneCommand_judged_view (fun _ _ => by simp [State.chainView]) t s⟩
  | cueRead t => exact ⟨_, rfl, State.laneCommand_judged_view (fun _ _ => by exact rfl) t s⟩
  | guardSet t => exact ⟨_, rfl, State.laneCommand_judged_view (fun _ _ => by simp [State.chainView]) t s⟩
  | guardRead t => exact ⟨_, rfl, State.laneCommand_judged_view judgeGuardRead_keepsView t s⟩
  | hold t => exact ⟨_, rfl, State.laneCommand_judged_view (fun _ _ => by exact rfl) t s⟩
  | resume t => exact ⟨_, rfl, State.laneCommand_judged_view (fun _ _ => by exact rfl) t s⟩

end Sys2Proof.Machine
end

section
/-!
PROOFS. Settles O2: no command stops the block, touches the queue of waiting commands, or changes role and address, but
for power-on reset (R1, R154).
-/

namespace Sys2Proof.Machine

/-- R11, R13: a settling of the turnaround state leaves the ports, the role, the numbers and what was sent. -/
@[simp] theorem Chain.settleTurnaround_frame (c : Chain) :
    c.settleTurnaround.leader = c.leader ∧ c.settleTurnaround.address = c.address ∧
    c.settleTurnaround.portU = c.portU ∧ c.settleTurnaround.portD = c.portD ∧
    c.settleTurnaround.lockG = c.lockG ∧ c.settleTurnaround.lockB = c.lockB ∧
    c.settleTurnaround.counter = c.counter ∧ c.settleTurnaround.expected = c.expected ∧
    c.settleTurnaround.syncU = c.syncU ∧ c.settleTurnaround.syncD = c.syncD ∧
    c.settleTurnaround.txU = c.txU ∧ c.settleTurnaround.txD = c.txD ∧
    c.settleTurnaround.turnaround = turnaroundOf c.leader c.portU.state c.portD.state := by
  rcases c.settleTurnaround_cases with ⟨h, e⟩ | ⟨_, h, e⟩ | ⟨_, h, e⟩ | ⟨_, e⟩ <;> simp [*]

/-- R13: a handled frame moves the switch number, the mark and its count alone. -/
@[simp] theorem Chain.countHandled_frame (n : FrameNo) (c : Chain) :
    (c.countHandled n).leader = c.leader ∧ (c.countHandled n).address = c.address ∧
    (c.countHandled n).portU = c.portU ∧ (c.countHandled n).portD = c.portD ∧
    (c.countHandled n).lockG = c.lockG ∧ (c.countHandled n).lockB = c.lockB ∧
    (c.countHandled n).counter = c.counter ∧ (c.countHandled n).expected = c.expected ∧
    (c.countHandled n).turnaround = c.turnaround ∧
    (c.countHandled n).syncU = c.syncU ∧ (c.countHandled n).syncD = c.syncD ∧
    (c.countHandled n).txU = c.txU ∧ (c.countHandled n).txD = c.txD := by
  simp [Chain.countHandled]

/-- R1: `t` has the role, the address and the waiting commands of `s`. -/
def State.SameRole (s t : State) : Prop :=
  t.pending = s.pending ∧ t.chain.leader = s.chain.leader ∧ t.chain.address = s.chain.address

theorem State.SameRole.refl (s : State) : s.SameRole s := ⟨rfl, rfl, rfl⟩

theorem State.SameRole.of_view {s t : State} (h : t.chainView = s.chainView) : s.SameRole t := by
  obtain ⟨_, hc, _, hp⟩ := State.chainView_eq_iff.1 h
  exact ⟨hp, congrArg Chain.leader hc, congrArg Chain.address hc⟩

theorem State.SameRole.trans {s t u : State} (h : s.SameRole t) (k : t.SameRole u) : s.SameRole u :=
  ⟨k.1.trans h.1, k.2.1.trans h.2.1, k.2.2.trans h.2.2⟩

theorem State.readsChainView_sameRole (s : State) : ReadsChainView s.SameRole :=
  fun _ _ h ht => ht.trans (.of_view h)

theorem State.sameRole_unlessHeld {s t : State} (h : s.SameRole t) : s.SameRole (s.unlessHeld t) := by
  rcases s.unlessHeld_cases t with ⟨_, e⟩ | ⟨_, e⟩ <;> rw [e]
  · exact .refl s
  · exact h

/-- A lane command row keeps the role when what it carries out does. -/
theorem State.sameRole_laneCommand {kind : Byte} {query : Bool} {judge : Entry → State → Verdict} {t : Taking}
    {s : State} (hj : ∀ e u, (judge e u).Leaves u.SameRole) : s.SameRole (s.laneCommand kind query judge t) := by
  refine State.laneCommand_leaves s.readsChainView_sameRole (.refl s) fun u e hu => ?_
  have := hj e u
  cases hv : judge e u with
  | refused _ => trivial
  | taken v r => rw [hv] at this; exact hu.trans this

theorem State.sameRole_handleGood (f : Frame) (s : State) : s.SameRole (s.handleGood f) := by
  simp [State.SameRole, State.handleGood_chain]

theorem State.sameRole_handleBad (n : FrameNo) (o : Option (List Byte)) (s : State) :
    s.SameRole (s.handleBad n o) := by
  simp [State.SameRole, State.handleBad_chain]

theorem State.sameRole_goodOutbound (f : Frame) (o : List Byte) (s : State) : s.SameRole (s.goodOutbound f o) := by
  unfold State.goodOutbound
  dsimp only
  split
  · simp [State.SameRole, State.handleGood_chain]
  · split <;> simp [State.SameRole, State.handleGood_chain, State.lockU]

theorem State.sameRole_badOutbound (o : Option (List Byte)) (s : State) : s.SameRole (s.badOutbound o) := by
  unfold State.badOutbound
  dsimp only
  split
  · split <;> simp [State.SameRole, State.handleBad_chain]
  · simp [State.SameRole]

theorem State.sameRole_goodReturn (f : Frame) (o : List Byte) (s : State) : s.SameRole (s.goodReturn f o) := by
  unfold State.goodReturn State.SameRole
  rcases State.passGoodReturn_chain (s.setPortD (s.chain.portD.judgeGood s.chain.lockG)) f o with h | ⟨d, u, h, _⟩ <;>
    simp [h]

theorem State.sameRole_badReturn (o : Option (List Byte)) (s : State) : s.SameRole (s.badReturn o) := by
  unfold State.badReturn State.SameRole
  rw [State.passBadReturn_chain]
  split <;> simp

theorem State.sameRole_loseU (s : State) : s.SameRole s.loseU := by
  unfold State.loseU
  split
  · exact .refl s
  · split
    · exact .refl s
    · exact ⟨rfl, rfl, rfl⟩
    · simp [State.SameRole]

theorem State.sameRole_loseD (s : State) : s.SameRole s.loseD := by
  unfold State.loseD
  split <;> simp [State.SameRole]

/-- Settles O2, by cases on the command. -/
theorem commandsAnswerNextKeepingRole : Obligations.CommandsAnswerNextKeepingRole := by
  intro c s
  suffices h : ∃ t, exec c s = .next t ∧ t.pending = s.pending ∧
      ((∀ lead a, c ≠ .powerOnReset lead a) → s.SameRole t) by
    obtain ⟨t, e, hp, hr⟩ := h
    exact ⟨t, e, hp, fun hc => (hr hc).2⟩
  suffices h : (∃ lead a, c = .powerOnReset lead a) ∨ ∃ t, exec c s = .next t ∧ s.SameRole t by
    rcases h with ⟨lead, a, rfl⟩ | ⟨t, e, hr⟩
    · exact ⟨_, rfl, rfl, fun hc => absurd rfl (hc lead a)⟩
    · exact ⟨t, e, hr.1, fun _ => hr⟩
  cases hm : movesView c with
  | false =>
    obtain ⟨t, e, hv⟩ := exec_keeps_view c s hm
    exact .inr ⟨t, e, .of_view hv⟩
  | true =>
    cases c with
    | powerOnReset lead a => exact .inl ⟨lead, a, rfl⟩
    | powerOnResetHeld => exact .inr ⟨_, rfl, rfl, rfl, rfl⟩
    | lineActivityAppears p =>
      refine .inr ⟨_, rfl, State.sameRole_unlessHeld ?_⟩
      cases p with
      | U =>
        dsimp only
        split
        · exact .refl s
        · unfold Chain.appearU
          split <;> exact ⟨rfl, rfl, rfl⟩
      | D =>
        unfold Chain.appearD
        dsimp only
        split <;> exact ⟨rfl, rfl, rfl⟩
    | lineActivityLost p =>
      refine .inr ⟨_, rfl, State.sameRole_unlessHeld ?_⟩
      cases p with
      | U => exact s.sameRole_loseU
      | D => exact s.sameRole_loseD
    | frameOriginate b =>
      refine .inr ⟨_, rfl, State.SameRole.trans (t := s.setHoldPulled b) ⟨rfl, rfl, rfl⟩
        (State.sameRole_unlessHeld ?_)⟩
      split
      · exact State.sameRole_handleGood _ _
      · exact .refl _
    | outboundFrameReceive o b =>
      refine .inr ⟨_, rfl, State.SameRole.trans (t := s.setHoldPulled b) ⟨rfl, rfl, rfl⟩
        (State.sameRole_unlessHeld ?_)⟩
      split
      · exact .refl _
      · split
        · exact State.sameRole_goodOutbound _ _ (s.setHoldPulled b).findSyncU
        · exact State.sameRole_badOutbound _ (s.setHoldPulled b).findSyncU
    | syncMissingPeriod p b =>
      refine .inr ⟨_, rfl, State.SameRole.trans (t := s.setHoldPulled b) ⟨rfl, rfl, rfl⟩
        (State.sameRole_unlessHeld ?_)⟩
      cases p with
      | U =>
        dsimp only
        split
        · exact .refl _
        · exact State.sameRole_badOutbound _ _
      | D =>
        dsimp only
        split
        · exact State.sameRole_badReturn _ _
        · exact .refl _
    | returnFrameReceive o =>
      refine .inr ⟨_, rfl, State.sameRole_unlessHeld ?_⟩
      split
      · exact .refl _
      · split
        · exact State.sameRole_goodReturn _ _ s.findSyncD
        · exact State.sameRole_badReturn _ s.findSyncD
    | discardMarkExpire =>
      refine .inr ⟨_, rfl, State.sameRole_unlessHeld ?_⟩
      split <;> exact ⟨rfl, rfl, rfl⟩
    | nodeReset t => exact .inr ⟨_, rfl, State.sameRole_laneCommand fun _ _ => ⟨rfl, rfl, rfl⟩⟩
    | quiet t =>
      exact .inr ⟨_, rfl, State.sameRole_laneCommand fun _ _ => judged_leaves (by simp [State.SameRole])⟩
    | wake t =>
      refine .inr ⟨_, rfl, State.sameRole_laneCommand fun _ u => ?_⟩
      show u.SameRole u.wake
      unfold State.wake
      split <;> exact ⟨rfl, rfl, rfl⟩
    | chainSet t =>
      exact .inr ⟨_, rfl, State.sameRole_laneCommand fun _ _ => judged_leaves ⟨rfl, rfl, rfl⟩⟩
    | _ => cases hm

end Sys2Proof.Machine
end

section
/-!
PROOFS. Settles O7: every step keeps the chain's law (R1, R4, R5, R6, R11, R13, R150, R154). `Chain.Lawful` is its part
about the Chain Interface alone; each operation on the chain record keeps it.
-/

namespace Sys2Proof.Machine

/-- The chain's law but for the node condition and RST_N. -/
def Chain.Lawful (c : Chain) : Prop :=
  c.turnaround = turnaroundOf c.leader c.portU.state c.portD.state ∧
  (c.leader = true → c.portU = PortRx.down ∧ c.txU = none) ∧
  c.portU.Lawful ∧ c.portD.Lawful ∧
  (c.portU.state = .locked → c.syncU = true) ∧ (c.portD.state = .locked → c.syncD = true) ∧
  8 ≤ c.lockG ∧ c.lockG ≤ 255 ∧ 2 ≤ c.lockB ∧ c.lockB ≤ 64 ∧
  (c.discard = true → c.turnaround = .through) ∧ c.sinceSwitch ≤ 16

/-- R150: a node condition agrees with the part's handling of frames. -/
def Chain.Agrees (c : Chain) (d : Condition) : Prop :=
  (d = .running → c.handles = true) ∧ (d = .isolated → c.handles = false)

/-- The chain's law while RST_N is high. -/
def State.LinkLaw (s : State) : Prop :=
  s.pins.rstLow = false ∧ s.chain.Lawful ∧ s.chain.Agrees s.hold.condition

theorem State.chainLaw_iff (s : State) : s.ChainLaw ↔ s.chain.Lawful ∧ s.chain.Agrees s.hold.condition ∧
    (s.pins.rstLow = true → s.chain.txU = none ∧ s.chain.txD = none) := by
  simp only [State.ChainLaw, Chain.Lawful, Chain.Agrees, and_assoc]

theorem State.LinkLaw.chainLaw {s : State} (h : s.LinkLaw) : s.ChainLaw := by
  obtain ⟨hr, hc, ha⟩ := h
  exact (State.chainLaw_iff s).2 ⟨hc, ha, fun k => by simp [hr] at k⟩

theorem State.ChainLaw.linkLaw {s : State} (h : s.ChainLaw) (hr : s.pins.rstLow = false) : s.LinkLaw :=
  ⟨hr, ((State.chainLaw_iff s).1 h).1, ((State.chainLaw_iff s).1 h).2.1⟩

theorem State.readsChainView_chainLaw : ReadsChainView State.ChainLaw := by
  intro s t hv hs
  obtain ⟨hp, hc, hd, _⟩ := State.chainView_eq_iff.1 hv
  rw [State.chainLaw_iff] at hs ⊢
  rwa [hp, hc, hd]

/-! ## Ports (R5) -/

theorem PortRx.lawful_down : PortRx.down.Lawful := by decide

theorem PortRx.lawful_seeking : (⟨.seeking, 0, 0⟩ : PortRx).Lawful := by decide

theorem PortRx.judgeGood_lawful {g : Nat} {p : PortRx} (h : p.Lawful) : (p.judgeGood g).Lawful := by
  rcases p.judgeGood_cases g with ⟨_, e⟩ | ⟨_, _, e⟩ | ⟨_, _, e⟩ | ⟨_, e⟩ <;> rw [e]
  · exact h
  all_goals exact ⟨by dsimp only; omega, by dsimp only; omega, nofun⟩

theorem PortRx.judgeBad_lawful {b : Nat} {p : PortRx} (h : p.Lawful) : (p.judgeBad b).Lawful := by
  rcases p.judgeBad_cases b with ⟨_, e⟩ | ⟨_, e⟩ | ⟨_, _, e⟩ | ⟨_, _, e⟩ <;> rw [e]
  · exact h
  · exact ⟨by dsimp only; omega, by dsimp only; omega, nofun⟩
  · exact PortRx.lawful_seeking
  · exact ⟨by dsimp only; omega, by dsimp only; omega, nofun⟩

/-- R5: a bad frame locks no port. -/
theorem PortRx.locked_of_judgeBad {b : Nat} {p : PortRx} (h : (p.judgeBad b).state = .locked) : p.state = .locked := by
  rcases p.judgeBad_cases b with ⟨_, e⟩ | ⟨_, e⟩ | ⟨_, _, e⟩ | ⟨h', _, e⟩ <;> rw [e] at h
  · exact h
  · cases h
  · cases h
  · exact h'

/-! ## The chain record -/

/-- R11, R13: a settling of the turnaround state gives the state of the ports, and a mark in THROUGH only. -/
theorem Chain.settleTurnaround_lawful {c : Chain}
    (hl : c.leader = true → c.portU = PortRx.down ∧ c.txU = none) (hu : c.portU.Lawful) (hd : c.portD.Lawful)
    (su : c.portU.state = .locked → c.syncU = true) (sd : c.portD.state = .locked → c.syncD = true)
    (ht : 8 ≤ c.lockG ∧ c.lockG ≤ 255 ∧ 2 ≤ c.lockB ∧ c.lockB ≤ 64)
    (hm : c.discard = true → c.turnaround = .through) (hs : c.sinceSwitch ≤ 16) : c.settleTurnaround.Lawful := by
  obtain ⟨h1, h2, h3, h4⟩ := ht
  have mark : (c.settleTurnaround.discard = true → c.settleTurnaround.turnaround = .through) ∧
      c.settleTurnaround.sinceSwitch ≤ 16 := by
    rcases c.settleTurnaround_cases with ⟨_, e⟩ | ⟨_, _, e⟩ | ⟨_, _, e⟩ | ⟨_, e⟩ <;> rw [e]
    · exact ⟨hm, hs⟩
    · exact ⟨fun _ => rfl, Nat.zero_le _⟩
    · exact ⟨fun _ => rfl, hs⟩
    · exact ⟨nofun, hs⟩
  refine ⟨?_, ?_, ?_, ?_, ?_, ?_, ?_, ?_, ?_, ?_, mark⟩
  · simp
  all_goals simpa

/-- R5, R11, R13, R14: Port D judged and the turnaround state settled. -/
theorem Chain.Lawful.setPortD {c : Chain} (h : c.Lawful) {p : PortRx} {sync : Bool} (hp : p.Lawful)
    (hs : p.state = .locked → sync = true) :
    ({ c with syncD := sync, portD := p } : Chain).settleTurnaround.Lawful := by
  obtain ⟨_, hl, hu, _, su, _, h1, h2, h3, h4, hm, hc⟩ := h
  exact Chain.settleTurnaround_lawful hl hu hp su hs ⟨h1, h2, h3, h4⟩ hm hc

/-- R13: a handled frame clears a mark, and counts to 16. -/
theorem Chain.Lawful.countHandled {c : Chain} (h : c.Lawful) (n : FrameNo) : (c.countHandled n).Lawful := by
  obtain ⟨ht, hl, hu, hd, su, sd, h1, h2, h3, h4, hm, hc⟩ := h
  refine ⟨ht, hl, hu, hd, su, sd, h1, h2, h3, h4, fun k => hm ?_, ?_⟩
  · simp only [Chain.countHandled, Bool.and_eq_true] at k
    exact k.1
  · simp only [Chain.countHandled]
    split <;> omega

/-- R1, R12: what is sent, the numbers and a cleared mark do not touch the law, while a leader's Port U is silent. -/
theorem Chain.Lawful.send {c : Chain} (h : c.Lawful) {u d : Option (List Byte)} {m : Bool} {n x : FrameNo}
    (hu : c.leader = true → u = none) (hm : m = true → c.discard = true) :
    ({ c with txU := u, txD := d, discard := m, counter := n, expected := x } : Chain).Lawful := by
  obtain ⟨ht, hl, rest⟩ := h
  obtain ⟨hpu, hpd, su, sd, h1, h2, h3, h4, hk, hc⟩ := rest
  exact ⟨ht, fun k => ⟨(hl k).1, hu k⟩, hpu, hpd, su, sd, h1, h2, h3, h4, fun k => hk (hm k), hc⟩

/-- R11: a member's turnaround state with Port U not LOCKED. -/
theorem turnaroundOf_unlocked {l : Bool} {u d : PortState} (hl : l = false) (hu : u ≠ .locked) :
    turnaroundOf l u d = .detached := by
  simp [turnaroundOf, hl, hu]

/-- R11: a member's turnaround state where Port U stays on its side of LOCKED. -/
theorem turnaroundOf_congr {l : Bool} {u v d : PortState} (h : u = .locked ↔ v = .locked) :
    turnaroundOf l u d = turnaroundOf l v d := by
  have : (u == .locked) = (v == .locked) := by rw [Bool.eq_iff_iff]; simpa using h
  simp [turnaroundOf, this]

/-- R5: a member's Port U moves on its side of LOCKED. -/
theorem Chain.Lawful.setPortU {c : Chain} (h : c.Lawful) (hm : c.leader = false) {p : PortRx} {sync : Bool}
    (hp : p.Lawful) (hs : p.state = .locked → sync = true) (hk : p.state = .locked ↔ c.portU.state = .locked) :
    ({ c with portU := p, syncU := sync } : Chain).Lawful := by
  obtain ⟨ht, hl, _, hd, _, sd, rest⟩ := h
  exact ⟨ht.trans (turnaroundOf_congr hk).symm, fun k => by simp [hm] at k, hp, hd, hs, sd, rest⟩

/-- R15, R16: a member's Port U leaves LOCKED. -/
theorem Chain.Lawful.unlockU {c : Chain} (h : c.Lawful) (hm : c.leader = false) {p : PortRx} {sync : Bool}
    (hp : p.Lawful) (hk : p.state ≠ .locked) :
    ({ c with portU := p, syncU := sync, turnaround := .detached, discard := false,
              switchOpen := false } : Chain).Lawful := by
  obtain ⟨_, _, _, hd, _, sd, h1, h2, h3, h4, _, hc⟩ := h
  exact ⟨(turnaroundOf_unlocked hm hk).symm, fun k => by simp [hm] at k, hp, hd, fun k => absurd k hk, sd,
    h1, h2, h3, h4, nofun, hc⟩

/-- R17: a member's Port U returns to LOCKED; outside LOCKED no mark stands. -/
theorem Chain.Lawful.lockU {c : Chain} (h : c.Lawful) (hm : c.leader = false) (hu : c.portU.state ≠ .locked)
    {p : PortRx} (hp : p.Lawful) (hk : p.state = .locked) :
    ({ c with portU := p, syncU := true,
              turnaround := turnaroundOf c.leader .locked c.portD.state } : Chain).Lawful := by
  obtain ⟨ht, _, _, hd, _, sd, h1, h2, h3, h4, hk', hc⟩ := h
  have hdet : c.turnaround = .detached := ht.trans (turnaroundOf_unlocked hm hu)
  exact ⟨by rw [hk], fun k => by simp [hm] at k, hp, hd, fun _ => rfl, sd, h1, h2, h3, h4,
    fun k => by simp [hdet] at hk'; simp [hk'] at k, hc⟩

/-! ## The node condition (R150) -/

theorem Chain.handles_member {c : Chain} (hm : c.leader = false) : c.handles = true ↔ c.portU.state = .locked := by
  simp [Chain.handles, hm]

theorem Chain.Agrees.congr {c d : Chain} {k : Condition} (h : c.Agrees k) (he : d.handles = c.handles) : d.Agrees k := by
  unfold Chain.Agrees at h ⊢
  rwa [he]

/-- R15: loss of the upstream side leaves no RUNNING part. -/
theorem Chain.agrees_unlocked {c : Chain} {k : Condition} (hc : c.handles = false) :
    c.Agrees (if k = .running then .isolated else k) := by
  cases k <;> simp [Chain.Agrees, hc]

/-- R17: an upstream side regained leaves no ISOLATED part. -/
theorem Chain.agrees_locked {c : Chain} {k : Condition} (hc : c.handles = true) :
    c.Agrees (if k = .isolated then .running else k) := by
  cases k <;> simp [Chain.Agrees, hc]

/-! ## The rows of the lines and frames -/

/-- The law over one operation that keeps the pins. -/
theorem State.LinkLaw.of {s t : State} (h : s.LinkLaw) (hp : t.pins.rstLow = s.pins.rstLow) (hc : t.chain.Lawful)
    (ha : t.chain.Agrees t.hold.condition) : t.LinkLaw := ⟨hp.trans h.1, hc, ha⟩

theorem State.LinkLaw.setHoldPulled {s : State} (h : s.LinkLaw) (b : Bool) : (s.setHoldPulled b).LinkLaw := h

theorem State.LinkLaw.appear {s : State} (h : s.LinkLaw) (port : Port) :
    (match port with
      | .U => if s.chain.leader then s else { s with chain := s.chain.appearU }
      | .D => { s with chain := s.chain.appearD } : State).LinkLaw := by
  obtain ⟨_, hc, ha⟩ := id h
  cases port with
  | U =>
    dsimp only
    split
    · exact h
    · rename_i hm
      rw [Bool.not_eq_true] at hm
      unfold Chain.appearU
      split
      · rename_i hd
        exact h.of rfl (hc.setPortU hm PortRx.lawful_seeking nofun (by simp [hd]))
          (ha.congr (by simp only [Chain.handles, hd]; rfl))
      · exact h
  | D =>
    unfold Chain.appearD
    dsimp only
    split
    · rename_i hd
      obtain ⟨ht, hl, hu, _, su, _, rest⟩ := hc
      exact h.of rfl ⟨by rw [ht, hd]; simp [turnaroundOf], hl, hu, PortRx.lawful_seeking, su, nofun, rest⟩ ha
    · exact h

theorem State.LinkLaw.loseU {s : State} (h : s.LinkLaw) : s.loseU.LinkLaw := by
  obtain ⟨_, hc, ha⟩ := id h
  unfold State.loseU
  split
  · exact h
  · rename_i hm
    rw [Bool.not_eq_true] at hm
    split
    · exact h
    · rename_i hu
      exact h.of rfl (hc.setPortU hm PortRx.lawful_down nofun (by simp [hu, PortRx.down]))
        (ha.congr (by simp only [Chain.handles, hu, PortRx.down]; rfl))
    · refine h.of (by simp) ?_ ?_
      · rw [State.unlockU_chain]
        exact hc.unlockU hm PortRx.lawful_down nofun
      · rw [State.unlockU_condition, State.unlockU_chain]
        exact Chain.agrees_unlocked (by simp [Chain.handles, hm, PortRx.down])

/-- R5, R11, R14: Port D judged. -/
theorem State.LinkLaw.setPortD {s : State} (h : s.LinkLaw) {p : PortRx} (hp : p.Lawful)
    (hs : p.state = .locked → s.chain.syncD = true) : (s.setPortD p).LinkLaw := by
  obtain ⟨_, hc, ha⟩ := id h
  refine h.of (by simp) ?_ ?_
  · rw [State.setPortD_chain]
    exact hc.setPortD hp hs
  · exact Chain.Agrees.congr (by simpa using ha) (by simp [Chain.handles])

theorem State.LinkLaw.loseD {s : State} (h : s.LinkLaw) : s.loseD.LinkLaw := by
  unfold State.loseD
  split
  · exact h
  · exact h.setPortD PortRx.lawful_down nofun
  · exact h.setPortD PortRx.lawful_down nofun

/-- R9, R12, R13: a handled good frame keeps the law. -/
theorem State.LinkLaw.handleGood {s : State} (h : s.LinkLaw) (f : Frame) : (s.handleGood f).LinkLaw := by
  obtain ⟨_, hc, ha⟩ := id h
  refine h.of (by simp) ?_ ?_
  · rw [State.handleGood_chain]
    refine (hc.countHandled f.number).send (fun hl => ?_) id
    have hl' : s.chain.leader = true := hl
    split
    · rfl
    · exact (hc.2.1 hl').2
  · rw [State.handleGood_condition]
    exact ha.congr (by simp [State.handleGood_chain, Chain.handles])

theorem State.LinkLaw.handleBad {s : State} (h : s.LinkLaw) (n : FrameNo) (o : Option (List Byte)) :
    (s.handleBad n o).LinkLaw := by
  obtain ⟨_, hc, ha⟩ := id h
  refine h.of (by simp) ?_ ?_
  · rw [State.handleBad_chain]
    refine (hc.countHandled n).send (fun hl => ?_) id
    have hl' : s.chain.leader = true := hl
    split
    · rfl
    · exact (hc.2.1 hl').2
  · rw [State.handleBad_condition]
    exact ha.congr (by simp [State.handleBad_chain, Chain.handles])

theorem State.LinkLaw.originate {s : State} (h : s.LinkLaw) : s.originate.LinkLaw := by
  obtain ⟨hr, hc, ha⟩ := h.handleGood (Frame.originate s.chain.counter)
  exact ⟨hr, hc.send (fun k => (hc.2.1 k).2) id, ha⟩

theorem State.LinkLaw.expect {s : State} (h : s.LinkLaw) (n : FrameNo) : (s.expect n).LinkLaw := by
  obtain ⟨hr, hc, ha⟩ := h
  exact ⟨hr, hc.send (fun k => (hc.2.1 k).2) id, ha⟩

theorem State.LinkLaw.sendD {s : State} (h : s.LinkLaw) (o : Option (List Byte)) : (s.sendD o).LinkLaw := by
  obtain ⟨hr, hc, ha⟩ := h
  exact ⟨hr, hc.send (fun k => (hc.2.1 k).2) id, ha⟩

theorem State.LinkLaw.findSyncU {s : State} (h : s.LinkLaw) : s.findSyncU.LinkLaw := by
  obtain ⟨hr, ⟨ht, hl, hu, hd, _, rest⟩, ha⟩ := h
  exact ⟨hr, ⟨ht, hl, hu, hd, fun _ => rfl, rest⟩, ha⟩

theorem State.LinkLaw.findSyncD {s : State} (h : s.LinkLaw) : s.findSyncD.LinkLaw := by
  obtain ⟨hr, ⟨ht, hl, hu, hd, su, _, rest⟩, ha⟩ := h
  exact ⟨hr, ⟨ht, hl, hu, hd, su, fun _ => rfl, rest⟩, ha⟩

/-- R5: a member's Port U judged without leaving or reaching LOCKED. -/
theorem State.LinkLaw.setPortU {s : State} (h : s.LinkLaw) (hm : s.chain.leader = false) {p : PortRx} {ev : Events}
    (hp : p.Lawful) (hs : p.state = .locked → s.chain.syncU = true)
    (hk : p.state = .locked ↔ s.chain.portU.state = .locked) :
    ({ s with chain := { s.chain with portU := p }, events := ev } : State).LinkLaw := by
  obtain ⟨_, hc, ha⟩ := id h
  refine h.of rfl (hc.setPortU hm hp hs hk) (ha.congr ?_)
  rw [Bool.eq_iff_iff, Chain.handles_member hm, Chain.handles_member (c := { s.chain with portU := p }) hm]
  exact hk

/-- R5, R8, R16, R17: a good outbound frame keeps the law. -/
theorem State.LinkLaw.goodOutbound {s : State} (h : s.LinkLaw) (hm : s.chain.leader = false)
    (hs : s.chain.syncU = true) (hd : s.chain.portU.state ≠ .down) (f : Frame) (o : List Byte) :
    (s.goodOutbound f o).LinkLaw := by
  obtain ⟨_, hc, ha⟩ := id h
  have hp : (s.chain.portU.judgeGood s.chain.lockG).Lawful := PortRx.judgeGood_lawful hc.2.2.1
  unfold State.goodOutbound
  dsimp only
  split
  · rename_i hu
    have hl : (s.chain.portU.judgeGood s.chain.lockG).state = .locked := by
      rcases s.chain.portU.judgeGood_cases s.chain.lockG with ⟨k, _⟩ | ⟨k, _, _⟩ | ⟨k, _, _⟩ | ⟨_, e⟩
      · exact absurd k hd
      · simp [hu] at k
      · simp [hu] at k
      · rw [e]
    refine State.LinkLaw.expect (State.LinkLaw.handleGood ?_ f) _
    have := h.setPortU hm (ev := s.events) hp (fun _ => hs) (by simp [hu, hl])
    cases f.number != s.chain.expected
    · exact this
    · exact this
  · rename_i hu
    split
    · rename_i hl
      refine State.LinkLaw.expect (State.LinkLaw.handleGood ?_ f) _
      refine h.of rfl ?_ ?_
      · have := hc.lockU hm hu hp hl
        rwa [← hs] at this
      · exact Chain.agrees_locked (by simp [State.lockU, Chain.handles, hl])
    · rename_i hl
      exact ((h.setPortU hm (ev := s.events) hp (fun _ => hs) (by simp [hu, hl])).sendD _).expect _

/-- R5, R7, R8, R15, R16: a bad outbound frame keeps the law. -/
theorem State.LinkLaw.badOutbound {s : State} (h : s.LinkLaw) (hm : s.chain.leader = false)
    (hs : s.chain.syncU = true) (o : Option (List Byte)) : (s.badOutbound o).LinkLaw := by
  obtain ⟨_, hc, _⟩ := id h
  have hp : (s.chain.portU.judgeBad s.chain.lockB).Lawful := PortRx.judgeBad_lawful hc.2.2.1
  unfold State.badOutbound
  dsimp only
  split
  · rename_i hu
    split
    · rename_i hl
      exact ((h.setPortU hm hp (fun _ => hs) (by simp [hu, hl])).handleBad _ o).expect _
    · rename_i hl
      refine State.LinkLaw.sendD (h.of (by simp) ?_ ?_) o
      · rw [State.unlockU_chain]
        exact hc.unlockU hm hp hl
      · rw [State.unlockU_condition, State.unlockU_chain]
        exact Chain.agrees_unlocked (by simp [Chain.handles, hm, hl])
  · rename_i hu
    exact (h.setPortU hm hp (fun _ => hs) (by simp [hu]; exact fun k => hu (PortRx.locked_of_judgeBad k))).sendD o

theorem State.LinkLaw.goodReturn {s : State} (h : s.LinkLaw) (hs : s.chain.syncD = true) (f : Frame) (o : List Byte) :
    (s.goodReturn f o).LinkLaw := by
  have hj := h.setPortD (p := s.chain.portD.judgeGood s.chain.lockG) (PortRx.judgeGood_lawful h.2.1.2.2.2.1)
    fun _ => hs
  obtain ⟨_, hc, ha⟩ := id hj
  have hh : (s.goodReturn f o).hold = (s.setPortD (s.chain.portD.judgeGood s.chain.lockG)).hold := by
    simp [State.goodReturn]
  have hp : (s.goodReturn f o).pins.rstLow = (s.setPortD (s.chain.portD.judgeGood s.chain.lockG)).pins.rstLow := by
    simp [State.goodReturn]
  refine hj.of hp ?_ ?_
  all_goals
    unfold State.goodReturn at hh ⊢
    try rw [hh]
    rcases (s.setPortD (s.chain.portD.judgeGood s.chain.lockG)).passGoodReturn_chain f o with e | ⟨d, u, e, hd⟩ <;> rw [e]
  · exact hc
  · exact hc.send (fun k => if_pos k) hd
  · exact ha
  · exact ha

theorem State.LinkLaw.badReturn {s : State} (h : s.LinkLaw) (hs : s.chain.syncD = true) (o : Option (List Byte)) :
    (s.badReturn o).LinkLaw := by
  have hj := State.LinkLaw.setPortD (s := s.countBadD) h (p := s.chain.portD.judgeBad s.chain.lockB)
    (PortRx.judgeBad_lawful h.2.1.2.2.2.1) fun _ => hs
  obtain ⟨_, hc, ha⟩ := id hj
  have hh : (s.badReturn o).hold = (s.countBadD.setPortD (s.chain.portD.judgeBad s.chain.lockB)).hold := by
    simp [State.badReturn]
  have hp : (s.badReturn o).pins.rstLow =
      (s.countBadD.setPortD (s.chain.portD.judgeBad s.chain.lockB)).pins.rstLow := by
    simp [State.badReturn]
  have e := (s.countBadD.setPortD (s.chain.portD.judgeBad s.chain.lockB)).passBadReturn_chain o
  refine hj.of hp ?_ ?_
  · unfold State.badReturn
    rw [e]
    split
    · exact hc
    · exact hc.send (fun k => if_pos k) id
  · rw [hh]
    unfold State.badReturn
    rw [e]
    split <;> exact ha

/-! ## Every command -/

/-- R154: a row guarded by RST_N keeps the law when it does so while RST_N is high. -/
theorem State.ChainLaw.unlessHeld {s t : State} (h : s.ChainLaw) (ht : s.LinkLaw → t.LinkLaw) :
    (s.unlessHeld t).ChainLaw := by
  rcases s.unlessHeld_cases t with ⟨_, e⟩ | ⟨hr, e⟩ <;> rw [e]
  · exact h
  · exact (ht (h.linkLaw hr)).chainLaw

/-- R19, R154: the chain after power-on. -/
theorem Chain.powerOn_lawful (lead : Bool) (a : Fin 16) : (Chain.powerOn lead a).Lawful := by
  cases lead <;> simp [Chain.Lawful, Chain.powerOn, PortRx.down, PortRx.Lawful, turnaroundOf]

/-- R18, R150: after power-on the leader alone handles frames. -/
theorem Chain.powerOn_handles (lead : Bool) (a : Fin 16) : (Chain.powerOn lead a).handles = lead := by
  cases lead <;> rfl

/-- R150, R155: the condition after a reset agrees with the port. -/
theorem Chain.agrees_reset (c : Chain) : c.Agrees (Hold.reset c.handles).condition := by
  cases h : c.handles <;> simp [Chain.Agrees, Hold.reset, h]

theorem State.ChainLaw.nodeReset {s : State} (h : s.ChainLaw) : s.nodeReset.ChainLaw := by
  rw [State.chainLaw_iff] at h ⊢
  exact ⟨h.1, s.chain.agrees_reset, h.2.2⟩

theorem State.ChainLaw.enterQuiet {s : State} (h : s.ChainLaw) : s.enterQuiet.ChainLaw := by
  rw [State.chainLaw_iff] at h ⊢
  have hq : s.enterQuiet.hold.condition = .quiet := by simp [State.enterQuiet, State.clearMemories]
  rw [hq]
  exact ⟨by simpa using h.1, by simp [Chain.Agrees], by simpa using h.2.2⟩

/-- R6: the thresholds a CHAIN_SET sets lie in range. -/
theorem State.ChainLaw.setLocks {s : State} (h : s.ChainLaw) (g b : Nat) :
    ({ s with chain := s.chain.setLocks g b } : State).ChainLaw := by
  rw [State.chainLaw_iff] at h ⊢
  obtain ⟨⟨ht, hl, hu, hd, su, sd, _, _, _, _, rest⟩, ha, hr⟩ := h
  have hg := clamp_mem (lo := 8) (hi := 255) (by omega) g
  have hb := clamp_mem (lo := 2) (hi := 64) (by omega) b
  exact ⟨⟨ht, hl, hu, hd, su, sd, hg.1, hg.2, hb.1, hb.2, rest⟩, ha, hr⟩

/-- A lane command row keeps the chain's law when what it carries out does. -/
theorem State.ChainLaw.laneCommand {s : State} (h : s.ChainLaw) {kind : Byte} {query : Bool}
    {judge : Entry → State → Verdict} {t : Taking}
    (hj : ∀ u e, u.ChainLaw → (judge e u).Leaves State.ChainLaw) : (s.laneCommand kind query judge t).ChainLaw :=
  State.laneCommand_leaves State.readsChainView_chainLaw h hj

theorem exec_keeps_chainLaw (c : Instr) (s t : State) (h : s.ChainLaw) (he : exec c s = .next t) : t.ChainLaw := by
  cases hm : movesView c with
  | false =>
    obtain ⟨u, e, hv⟩ := exec_keeps_view c s hm
    cases e.symm.trans he
    exact State.readsChainView_chainLaw _ _ hv h
  | true =>
    cases c with
    | powerOnReset lead a =>
      cases he
      have ha := (Chain.powerOn lead a).agrees_reset
      rw [Chain.powerOn_handles] at ha
      exact (State.chainLaw_iff _).2 ⟨Chain.powerOn_lawful lead a, ha, nofun⟩
    | powerOnResetHeld =>
      cases he
      rw [State.chainLaw_iff] at h ⊢
      exact ⟨h.1.send (fun _ => rfl) id, h.2.1, fun _ => ⟨rfl, rfl⟩⟩
    | lineActivityAppears p =>
      cases he
      exact h.unlessHeld fun k => k.appear p
    | lineActivityLost p =>
      cases he
      refine h.unlessHeld fun k => ?_
      cases p with
      | U => exact k.loseU
      | D => exact k.loseD
    | frameOriginate b =>
      cases he
      refine State.ChainLaw.unlessHeld (s := s.setHoldPulled b) h fun k => ?_
      split
      · exact k.originate
      · exact k
    | outboundFrameReceive o b =>
      cases he
      refine State.ChainLaw.unlessHeld (s := s.setHoldPulled b) h fun k => ?_
      split
      · exact k
      · rename_i hn
        obtain ⟨hl, hd⟩ : s.chain.leader = false ∧ s.chain.portU.state ≠ .down := by
          simpa [State.setHoldPulled] using hn
        split
        · exact k.findSyncU.goodOutbound hl rfl hd _ _
        · exact k.findSyncU.badOutbound hl rfl _
    | syncMissingPeriod p b =>
      cases he
      refine State.ChainLaw.unlessHeld (s := s.setHoldPulled b) h fun k => ?_
      cases p with
      | U =>
        dsimp only
        split
        · exact k
        · rename_i hn
          obtain ⟨hl, hp⟩ : s.chain.leader = false ∧ s.chain.periodsU = true := by
            simpa [State.setHoldPulled] using hn
          exact k.badOutbound hl (by simp [Chain.periodsU] at hp; exact hp.2) _
      | D =>
        dsimp only
        split
        · rename_i hp
          exact k.badReturn (by simp [Chain.periodsD] at hp; exact hp.2) _
        · exact k
    | returnFrameReceive o =>
      cases he
      refine h.unlessHeld fun k => ?_
      split
      · exact k
      · split
        · exact k.findSyncD.goodReturn rfl _ _
        · exact k.findSyncD.badReturn rfl _
    | discardMarkExpire =>
      cases he
      refine h.unlessHeld fun k => ?_
      split
      · obtain ⟨hr, ⟨ht, hl, hu, hd, su, sd, h1, h2, h3, h4, _, _⟩, ha⟩ := k
        exact ⟨hr, ⟨ht, hl, hu, hd, su, sd, h1, h2, h3, h4, nofun, Nat.le_refl 16⟩, ha⟩
      · exact k
    | nodeReset t =>
      cases he
      exact h.laneCommand fun _ _ hu => hu.nodeReset
    | quiet t =>
      cases he
      exact h.laneCommand fun _ _ hu => judged_leaves hu.enterQuiet
    | wake t =>
      cases he
      refine h.laneCommand fun u e hu => ?_
      show u.wake.ChainLaw
      unfold State.wake
      split
      · exact hu.nodeReset
      · exact hu
    | chainSet t =>
      cases he
      exact h.laneCommand fun _ _ hu => judged_leaves (hu.setLocks _ _)
    | _ => cases hm

/-- Settles O7: every command keeps the chain's law, and the law does not read the queue. -/
theorem stepKeepsChainLaw : Obligations.StepKeepsChainLaw := fun _ _ hs h =>
  step_keeps_of_exec_keeps (fun _ _ hs => hs) exec_keeps_chainLaw hs h

end Sys2Proof.Machine
end

section
/-!
PROOFS. Settles O4 and O6: what power-on reset leaves (R19, R154), and that every reset state has every law.
-/

namespace Sys2Proof.Machine

/-- R154: the blocks after power-on, whatever pulls HOLD_N and waits in the queue. -/
theorem State.powerOn_blocksReset (lead : Bool) (a : Fin 16) : (State.powerOn lead a).BlocksReset := by
  refine ⟨?_, ?_, rfl, rfl, ?_, ?_, ?_, rfl, ?_, ?_, ?_, rfl, ?_⟩
  · simp [Level.IsReset, State.powerOn, Level.reset, Group.reset, Feed.reset]
  · simp [State.PickupsReset, State.powerOn, Pickup.reset, BufferEntry.cleared]
  · simp [State.powerOn, TapEngine.reset]
  · simp [State.powerOn, RevCore.IsReset, RevCore.reset, Targets.zero]
  · simp [State.powerOn, Scene.IsReset, Scene.reset, Header.default]
  · simp [State.powerOn, CueUnit.reset]
  · simp [State.powerOn, Guard.reset]
  · simp [State.powerOn, Lane.IsReset, Lane.reset]
  · simp [State.powerOn, Pattern.reset]

/-- Settles O4: the state after the rise of RST_N is the power-on state, its queue and the outside level of HOLD_N
kept. -/
theorem powerOnResetGivesResetValues : Obligations.PowerOnResetGivesResetValues := fun lead a s =>
  ⟨s.restart lead a, rfl, rfl, rfl, State.powerOn_blocksReset lead a, rfl, rfl, rfl, rfl, rfl, rfl, rfl, rfl, rfl, rfl,
    rfl, rfl, rfl, rfl⟩

/-! ## The laws of a reset state -/

theorem Targets.zero_lawful : Targets.zero.Lawful := by
  simp [Targets.Lawful, Targets.zero]

theorem RevCore.reset_lawful : RevCore.reset.Lawful := by
  refine ⟨?_, by decide, rfl, ?_, fun _ => rfl, nofun, nofun, Targets.zero_lawful, Targets.zero_lawful,
    Targets.zero_lawful, ?_⟩ <;> simp [RevCore.reset]

theorem Scene.reset_lawful : Scene.reset.Lawful := by
  simp [Scene.Lawful, Header.Lawful, Scene.reset, Header.default]

theorem State.powerOn_chainLaw (lead : Bool) (a : Fin 16) : (State.powerOn lead a).ChainLaw := by
  have ha := (Chain.powerOn lead a).agrees_reset
  rw [Chain.powerOn_handles] at ha
  exact (State.chainLaw_iff _).2 ⟨Chain.powerOn_lawful lead a, ha, nofun⟩

theorem State.powerOn_codeLaw (lead : Bool) (a : Fin 16) : (State.powerOn lead a).CodeLaw := by
  simp [State.CodeLaw, State.powerOn, Level.reset, Group.Lawful, Group.reset, phaseOf, Feed.reset, Pickup.Lawful,
    Pickup.reset, Guard.Lawful, Guard.reset, TapEngine.reset]

theorem State.powerOn_holdLaw (lead : Bool) (a : Fin 16) : (State.powerOn lead a).HoldLaw := by
  simp [State.HoldLaw, State.powerOn, Level.reset, Hold.reset]

theorem State.powerOn_laneLaw (lead : Bool) (a : Fin 16) : (State.powerOn lead a).LaneLaw := by
  simp [State.LaneLaw, State.powerOn, Lane.reset, State.reservedReplies]

theorem State.powerOn_memoryLaw (lead : Bool) (a : Fin 16) : (State.powerOn lead a).MemoryLaw := by
  refine ⟨?_, ?_, fun c => ?_, Nat.zero_le _⟩
  · simp [State.powerOn]
  · simp [State.powerOn, BufferEntry.cleared]
  · rw [show (State.powerOn lead a).cores.get c = RevCore.reset from Bank.get_fill ..]
    exact RevCore.reset_lawful

theorem State.powerOn_scene (lead : Bool) (a i : Fin 16) : (State.powerOn lead a).scenes.get i = Scene.reset :=
  Bank.get_fill ..

theorem State.powerOn_sceneLaw (lead : Bool) (a : Fin 16) : (State.powerOn lead a).SceneLaw := by
  refine ⟨fun i => State.powerOn_scene lead a i ▸ Scene.reset_lawful, ?_⟩
  simp only [State.powerOn_scene]
  simp [Scene.reset, State.powerOn, CueUnit.reset, CueState.fades, CueState.hasCue]

theorem State.powerOn_checkedLaw (lead : Bool) (a : Fin 16) : (State.powerOn lead a).CheckedLaw := by
  simp only [State.CheckedLaw, State.powerOn_scene]
  simp [Scene.reset, State.powerOn]

theorem State.powerOn_slotLaw (lead : Bool) (a : Fin 16) : (State.powerOn lead a).SlotLaw := by
  simp [State.SlotLaw, State.powerOn, Level.reset, Feed.reset, Pattern.reset]

theorem State.powerOn_countLaw (lead : Bool) (a : Fin 16) : (State.powerOn lead a).CountLaw := by
  simp [State.CountLaw, State.powerOn, Events.Lawful, Events.reset, Pattern.reset]

theorem State.powerOn_lawful (lead : Bool) (a : Fin 16) : (State.powerOn lead a).Lawful :=
  ⟨State.powerOn_chainLaw lead a, State.powerOn_codeLaw lead a, State.powerOn_holdLaw lead a,
    State.powerOn_laneLaw lead a, State.powerOn_memoryLaw lead a, State.powerOn_sceneLaw lead a,
    State.powerOn_checkedLaw lead a, State.powerOn_slotLaw lead a, State.powerOn_countLaw lead a⟩

/-- Settles O6: law by law, for every strapping. -/
theorem resetStatesAreLawful : Obligations.ResetStatesAreLawful :=
  ⟨State.powerOn_lawful _ _, State.powerOn_lawful⟩

end Sys2Proof.Machine
end

section
/-!
PROOFS. Settles O34 and O39: line activity, a Port U that is not LOCKED, and how a new Port D is settled (R1, R4 to
R8, R11 to R14, R16).
-/

namespace Sys2Proof.Machine

/-! ## Rows while RST_N is high -/

theorem State.unlessHeld_high {s : State} (h : s.pins.rstLow = false) (t : State) : s.unlessHeld t = t := by
  simp [State.unlessHeld, h]

theorem State.setHoldPulled_high {s : State} (h : s.pins.rstLow = false) (b : Bool) :
    s.setHoldPulled b = { s with pins := ⟨false, b⟩ } := by
  simp [State.setHoldPulled, h]

/-- R154: LINE_ACTIVITY_APPEARS while RST_N is high. -/
theorem exec_lineActivityAppears_U {s : State} (h : s.pins.rstLow = false) :
    exec (.lineActivityAppears .U) s =
      .next (if s.chain.leader then s else { s with chain := s.chain.appearU }) :=
  congrArg _ (State.unlessHeld_high h _)

theorem exec_lineActivityAppears_D {s : State} (h : s.pins.rstLow = false) :
    exec (.lineActivityAppears .D) s = .next { s with chain := s.chain.appearD } :=
  congrArg _ (State.unlessHeld_high h _)

/-- R154: LINE_ACTIVITY_LOST while RST_N is high. -/
theorem exec_lineActivityLost_U {s : State} (h : s.pins.rstLow = false) :
    exec (.lineActivityLost .U) s = .next s.loseU :=
  congrArg _ (State.unlessHeld_high h _)

theorem exec_lineActivityLost_D {s : State} (h : s.pins.rstLow = false) :
    exec (.lineActivityLost .D) s = .next s.loseD :=
  congrArg _ (State.unlessHeld_high h _)

/-- R1, R4: an outbound frame at a leader or a DOWN Port U does not occur. -/
theorem exec_outboundFrameReceive_none {s : State} {o : List Byte} {b : Bool}
    (hn : s.chain.leader = true ∨ s.chain.portU.state = .down) :
    exec (.outboundFrameReceive o b) s = .next (s.setHoldPulled b) := by
  refine congrArg _ (?_ : State.unlessHeld _ _ = _)
  rw [if_pos (by rcases hn with hn | hn <;> simp [State.setHoldPulled, hn])]
  rcases (s.setHoldPulled b).unlessHeld_cases (s.setHoldPulled b) with ⟨_, e⟩ | ⟨_, e⟩ <;> exact e

/-- R4: a good outbound frame at a member's Port U that is not DOWN. -/
theorem exec_outboundFrameReceive_good {s : State} {o : List Byte} {b : Bool} {f : Frame}
    (h : s.pins.rstLow = false) (hl : s.chain.leader = false) (hd : s.chain.portU.state ≠ .down)
    (hf : goodFrame? false o = some f) :
    exec (.outboundFrameReceive o b) s = .next ((s.setHoldPulled b).findSyncU.goodOutbound f o) := by
  refine congrArg _ ((State.unlessHeld_high (s := s.setHoldPulled b) h _).trans ?_)
  rw [if_neg (by simp [State.setHoldPulled, hl, hd]), hf]

/-- R4: a bad outbound frame there. -/
theorem exec_outboundFrameReceive_bad {s : State} {o : List Byte} {b : Bool}
    (h : s.pins.rstLow = false) (hl : s.chain.leader = false) (hd : s.chain.portU.state ≠ .down)
    (hf : goodFrame? false o = none) :
    exec (.outboundFrameReceive o b) s = .next ((s.setHoldPulled b).findSyncU.badOutbound (some o)) := by
  refine congrArg _ ((State.unlessHeld_high (s := s.setHoldPulled b) h _).trans ?_)
  rw [if_neg (by simp [State.setHoldPulled, hl, hd]), hf]

/-- R1, R4: at a leader, or where no period has begun, no sync pattern is missed at Port U. -/
theorem exec_syncMissingPeriod_U_none {s : State} {b : Bool}
    (hn : s.chain.leader = true ∨ s.chain.portU.state = .down ∨ s.chain.syncU = false) :
    exec (.syncMissingPeriod .U b) s = .next (s.setHoldPulled b) := by
  refine congrArg _ (?_ : State.unlessHeld _ _ = _)
  dsimp only
  rw [if_pos (by rcases hn with hn | hn | hn <;> simp [State.setHoldPulled, Chain.periodsU, hn])]
  rcases (s.setHoldPulled b).unlessHeld_cases (s.setHoldPulled b) with ⟨_, e⟩ | ⟨_, e⟩ <;> exact e

/-- R4, R7: a sync pattern missed at a member's Port U. -/
theorem exec_syncMissingPeriod_U {s : State} {b : Bool} (h : s.pins.rstLow = false) (hl : s.chain.leader = false)
    (hd : s.chain.portU.state ≠ .down) (hs : s.chain.syncU = true) :
    exec (.syncMissingPeriod .U b) s = .next ((s.setHoldPulled b).badOutbound none) := by
  refine congrArg _ ((State.unlessHeld_high (s := s.setHoldPulled b) h _).trans ?_)
  dsimp only
  rw [if_neg (by simp [State.setHoldPulled, Chain.periodsU, hl, hd, hs])]

/-! ## Line activity (R5) -/

/-- R13: the discard mark stands in THROUGH only. -/
theorem Chain.Lawful.discard_through {c : Chain} (h : c.Lawful) (hm : c.discard = true) : c.turnaround = .through := by
  obtain ⟨_, _, _, _, _, _, _, _, _, _, hk, _⟩ := h
  exact hk hm

/-! ## Port D judged (R5, R11, R13, R14) -/

@[simp] theorem topologyChanged_self (t : Turnaround) : topologyChanged t t = false := by cases t <;> rfl

/-- R187: an event latched on a condition. -/
theorem State.latchIf_eq (b : Bool) (e : Event) (s : State) :
    s.latchIf b e = { s with events := { s.events with latch := s.events.latch ||| if b then e.word else 0 } } := by
  cases b
  · simp [State.latchIf]
  · rfl

/-- R11: where the turnaround state is the table's, it says whether the part handles frames and Port D is LOCKED. -/
theorem turnaroundOf_eq_iff (l : Bool) (u d : PortState) :
    (turnaroundOf l u d = .chainEnd ↔ (l || u == .locked) = true ∧ d ≠ .locked) ∧
    (turnaroundOf l u d = .through ↔ (l || u == .locked) = true ∧ d = .locked) ∧
    (turnaroundOf l u d = .detached ↔ (l || u == .locked) = false) := by
  unfold turnaroundOf
  cases (l || u == .locked) <;> cases d <;> simp

/-- R11, R13, R14: what a new Port D brings where the turnaround state is the table's: END to THROUGH with its mark,
THROUGH to END, or no change. -/
theorem Chain.setPortD_cases {c : Chain} (hc : c.turnaround = turnaroundOf c.leader c.portU.state c.portD.state)
    (p : PortRx) :
    (c.turnaround = .chainEnd ∧ c.portD.state ≠ .locked ∧ p.state = .locked ∧
      ({ c with portD := p } : Chain).settleTurnaround = { c with
        portD := p, turnaround := .through, discard := true, switchNo := c.nextNumber, switchOpen := true
        sinceSwitch := 0 }) ∨
    (c.turnaround = .through ∧ c.portD.state = .locked ∧ p.state ≠ .locked ∧
      ({ c with portD := p } : Chain).settleTurnaround = { c with
        portD := p, turnaround := .chainEnd, discard := false, switchOpen := false }) ∨
    (¬(c.turnaround = .chainEnd ∧ p.state = .locked) ∧ ¬(c.turnaround = .through ∧ p.state ≠ .locked) ∧
      ({ c with portD := p } : Chain).settleTurnaround = { c with portD := p }) := by
  have hn : ({ c with portD := p } : Chain).nextNumber = c.nextNumber := rfl
  unfold Chain.settleTurnaround
  dsimp only
  rw [hn]
  cases hh : (c.leader || c.portU.state == .locked)
  · simp [hc, turnaroundOf, hh]
  · by_cases ho : c.portD.state = .locked
    · by_cases hp : p.state = .locked
      · simp [hc, turnaroundOf, hh, ho, hp]
      · simp [hc, turnaroundOf, hh, ho, hp]
    · by_cases hp : p.state = .locked
      · simp [hc, turnaroundOf, hh, ho, hp]
      · simp [hc, turnaroundOf, hh, ho, hp]

/-- R5, R11: Port D set: its state, CHAIN_D where it leaves LOCKED, and TOPOLOGY where the turnaround state changes. -/
theorem State.setPortD_eq (s : State) (p : PortRx) : s.setPortD p = { s with
    chain := ({ s.chain with portD := p } : Chain).settleTurnaround
    events := { s.events with latch := s.events.latch |||
      (if s.chain.portD.state = .locked ∧ p.state ≠ .locked then Event.word .chainD else 0) |||
      (if topologyChanged s.chain.turnaround ({ s.chain with portD := p } : Chain).settleTurnaround.turnaround
        then Event.word .topology else 0) } } := by
  unfold State.setPortD State.settleTurnaround
  simp only [State.latchIf_eq]
  simp

/-- R5, R11, R13, R14: the same where the turnaround state is the table's. -/
theorem State.setPortD_cases {s : State}
    (hc : s.chain.turnaround = turnaroundOf s.chain.leader s.chain.portU.state s.chain.portD.state) (p : PortRx) :
    (s.chain.turnaround = .chainEnd ∧ p.state = .locked ∧ s.setPortD p = { s with
      chain := { s.chain with
        portD := p, turnaround := .through, discard := true, switchNo := s.chain.nextNumber, switchOpen := true
        sinceSwitch := 0 }
      events := { s.events with latch := s.events.latch ||| Event.word .topology } }) ∨
    (s.chain.turnaround = .through ∧ p.state ≠ .locked ∧ s.setPortD p = { s with
      chain := { s.chain with portD := p, turnaround := .chainEnd, discard := false, switchOpen := false }
      events := { s.events with latch := s.events.latch |||
        (if s.chain.portD.state = .locked ∧ p.state ≠ .locked then Event.word .chainD else 0) ||| Event.word .topology } }) ∨
    (¬(s.chain.turnaround = .chainEnd ∧ p.state = .locked) ∧ ¬(s.chain.turnaround = .through ∧ p.state ≠ .locked) ∧
      s.setPortD p = { s with
        chain := { s.chain with portD := p }
        events := { s.events with latch := s.events.latch |||
          if s.chain.portD.state = .locked ∧ p.state ≠ .locked then Event.word .chainD else 0 } }) := by
  rw [State.setPortD_eq]
  rcases Chain.setPortD_cases hc p with ⟨h, ho, hp, e⟩ | ⟨h, ho, hp, e⟩ | ⟨h, k, e⟩
  · refine .inl ⟨h, hp, ?_⟩
    rw [e]
    simp [h, ho, topologyChanged]
  · refine .inr (.inl ⟨h, hp, ?_⟩)
    rw [e]
    simp [h, topologyChanged]
  · refine .inr (.inr ⟨h, k, ?_⟩)
    rw [e]
    simp

/-- R5: a Port D that is not DOWN loses activity. -/
theorem State.loseD_of_ne_down {s : State} (hd : s.chain.portD.state ≠ .down) : s.loseD = s.setPortD PortRx.down := by
  unfold State.loseD
  split
  · exact absurd ‹_› hd
  · rfl
  · rfl

/-- Settles O34. -/
theorem lineActivityMovesPorts : Obligations.LineActivityMovesPorts := by
  intro s hr
  rw [exec_lineActivityAppears_U hr, exec_lineActivityAppears_D hr, exec_lineActivityLost_U hr,
    exec_lineActivityLost_D hr]
  refine ⟨fun hl => ?_, fun hl hu => ?_, fun hl hu => ?_, fun hu => ?_, fun hd => ?_, fun hd => ?_, fun hc hd => ?_,
    fun hc hd => ?_⟩
  · simp [State.loseU, hl]
  · simp [State.loseU, hl, hu, Chain.appearU]
  · simp [State.loseU, hl, hu, PortRx.down]
  · simp [Chain.appearU, hu]
  · simp [State.loseD, Chain.appearD, hd]
  · simp [Chain.appearD, hd]
  · rw [State.loseD_of_ne_down (by simp [hd])]
    rcases State.setPortD_cases hc.1 PortRx.down with ⟨_, h, _⟩ | ⟨h, _, _⟩ | ⟨_, _, e⟩
    · cases h
    · have := ((turnaroundOf_eq_iff _ _ _).2.1.1 (hc.1.symm.trans h)).2
      rw [hd] at this
      cases this
    · rw [e]
      simp [hd, PortRx.down]
  · rw [State.loseD_of_ne_down (by simp [hd])]
    refine ⟨_, rfl, ?_⟩
    have hh : s.chain.handles = (s.chain.leader || s.chain.portU.state == .locked) := rfl
    have ht := turnaroundOf_eq_iff s.chain.leader s.chain.portU.state s.chain.portD.state
    rw [← hc.1, ← hh] at ht
    rcases State.setPortD_cases hc.1 PortRx.down with ⟨_, h, _⟩ | ⟨h, _, e⟩ | ⟨_, h, e⟩
    · cases h
    · rw [e]
      simp [(ht.2.1.1 h).1, PortRx.down, hd]
    · have hk : s.chain.turnaround ≠ .through := fun k => h ⟨k, nofun⟩
      have hn : s.chain.handles = false := by
        cases hb : s.chain.handles
        · rfl
        · exact absurd (ht.2.1.2 ⟨hb, hd⟩) hk
      have hm : s.chain.discard = false := by
        cases hb : s.chain.discard
        · rfl
        · exact absurd (((State.chainLaw_iff s).1 hc).1.discard_through hb) hk
      rw [e]
      simp [hn, hm, PortRx.down, hd, ht.2.2.2 hn]

/-! ## Port U that is not LOCKED (R5, R16) -/

/-- R7: a bad frame period at a SEEKING Port U. -/
theorem State.badOutbound_seeking {s : State} (hu : s.chain.portU.state = .seeking) (o : Option (List Byte)) :
    s.badOutbound o = { s with
      chain := { s.chain with portU := ⟨.seeking, 0, min 64 (s.chain.portU.bad + 1)⟩, txD := o }
      events := { s.events with
        latch := s.events.latch ||| Event.word .badFrame
        badU := min top32 (s.events.badU + 1) } } := by
  unfold State.badOutbound
  simp [hu, PortRx.judgeBad]
  rfl

/-- Settles O39. -/
theorem unlockedPortUPassesFrames : Obligations.UnlockedPortUPassesFrames := by
  intro s o b hr
  refine ⟨fun hn => ⟨exec_outboundFrameReceive_none hn, exec_syncMissingPeriod_U_none (hn.imp_right .inl)⟩,
    fun hl hu => ?_⟩
  have hd : s.chain.portU.state ≠ .down := by simp [hu]
  refine ⟨fun f hf hg => ?_, fun hf => ?_, fun hs => exec_syncMissingPeriod_U_none (.inr (.inr hs)), fun hs => ?_⟩
  · rw [exec_outboundFrameReceive_good hr hl hd hf, State.setHoldPulled_high hr]
    have hj : s.chain.portU.judgeGood s.chain.lockG = ⟨.seeking, min 255 (s.chain.portU.good + 1), 0⟩ := by
      simp only [PortRx.judgeGood, hu]
      rw [if_neg (by omega)]
    simp [State.goodOutbound, hu, hj, State.findSyncU, State.expect, State.sendD]
  · rw [exec_outboundFrameReceive_bad hr hl hd hf, State.setHoldPulled_high hr]
    exact congrArg _ (State.badOutbound_seeking (s := State.findSyncU { s with pins := ⟨false, b⟩ }) hu _)
  · rw [exec_syncMissingPeriod_U hr hl hd hs, State.setHoldPulled_high hr]
    exact congrArg _ (State.badOutbound_seeking (s := { s with pins := ⟨false, b⟩ }) hu _)

end Sys2Proof.Machine
end

section
/-!
PROOFS. Settles O42: a bad frame period at Port D (R4, R5, R7, R11 to R14, R16).
-/

namespace Sys2Proof.Machine

/-- R11, R13: a settling of the turnaround state moves that state, the mark and the switch number alone. -/
theorem Chain.settleTurnaround_eq (c : Chain) : c.settleTurnaround = { c with
    turnaround := c.settleTurnaround.turnaround, discard := c.settleTurnaround.discard
    switchNo := c.settleTurnaround.switchNo, switchOpen := c.settleTurnaround.switchOpen
    sinceSwitch := c.settleTurnaround.sinceSwitch } := by
  rcases c.settleTurnaround_cases with ⟨_, e⟩ | ⟨_, _, e⟩ | ⟨_, _, e⟩ | ⟨_, e⟩ <;> rw [e]

/-- R12, R16: a bad return frame period passes outside END. -/
theorem State.passBadReturn_eq (o : Option (List Byte)) (s : State) :
    s.passBadReturn o = if s.chain.turnaround = .chainEnd then s else s.sendU o := by
  unfold State.passBadReturn
  cases s.chain.turnaround <;> rfl

/-- R12, R16: what Port U sends in a bad return frame period. -/
theorem State.passBadReturn_txU (o : Option (List Byte)) (s : State) : s.passBadReturn o = { s with
    chain := { s.chain with
      txU := if s.chain.turnaround = .chainEnd then s.chain.txU else if s.chain.leader then none else o } } := by
  rw [State.passBadReturn_eq]
  split <;> rfl

/-- R4: a bad frame period at a Port D that has begun its periods. -/
theorem exec_badReturn {s : State} {c : Instr} {octets : Option (List Byte)} {b : Bool} (hr : s.pins.rstLow = false)
    (hc : c = .syncMissingPeriod .D b ∧ octets = none ∨
      c = .returnFrameReceive (octets.getD []) ∧ octets.isSome ∧ b = s.pins.holdPulled ∧
        goodFrame? true (octets.getD []) = none)
    (hd : s.chain.portD.state ≠ .down) (hs : octets = none → s.chain.syncD = true) :
    exec c s = .next ((s.setHoldPulled b).findSyncD.badReturn octets) := by
  rcases hc with ⟨rfl, rfl⟩ | ⟨rfl, ho, rfl, hf⟩
  · refine congrArg _ ((State.unlessHeld_high (s := s.setHoldPulled b) hr _).trans ?_)
    have hf : (s.setHoldPulled b).findSyncD = s.setHoldPulled b := by
      simp only [State.findSyncD, State.setHoldPulled]
      rw [← hs rfl]
    dsimp only
    rw [if_pos (by simp [State.setHoldPulled, Chain.periodsD, hd, hs]), hf]
  · obtain ⟨o, rfl⟩ := Option.isSome_iff_exists.1 ho
    refine congrArg _ ((State.unlessHeld_high hr _).trans ?_)
    rw [if_neg (by simp [hd]), hf]
    rfl

/-- R4: where no period has begun the row changes nothing but the level it carries. -/
theorem exec_badReturn_none {s : State} {c : Instr} {octets : Option (List Byte)} {b : Bool} (hr : s.pins.rstLow = false)
    (hc : c = .syncMissingPeriod .D b ∧ octets = none ∨
      c = .returnFrameReceive (octets.getD []) ∧ octets.isSome ∧ b = s.pins.holdPulled ∧
        goodFrame? true (octets.getD []) = none)
    (hn : s.chain.portD.state = .down ∨ octets = none ∧ s.chain.syncD = false) :
    exec c s = .next (s.setHoldPulled b) := by
  rcases hc with ⟨rfl, rfl⟩ | ⟨rfl, ho, rfl, hf⟩
  · refine congrArg _ ((State.unlessHeld_high (s := s.setHoldPulled b) hr _).trans ?_)
    dsimp only
    rw [if_neg (by rcases hn with hn | ⟨_, hn⟩ <;> simp [State.setHoldPulled, Chain.periodsD, hn])]
  · have hd : s.chain.portD.state = .down := by
      rcases hn with hn | ⟨hn, _⟩
      · exact hn
      · simp [hn] at ho
    refine congrArg _ ((State.unlessHeld_high hr _).trans ?_)
    rw [if_pos (by simp [hd])]
    rfl

/-- R5: what a bad frame leaves of a Port D that is not DOWN. -/
theorem PortRx.judgeBad_eq {p : PortRx} (b : Nat) (hd : p.state ≠ .down) : p.judgeBad b =
    if p.state = .locked ∧ min 64 (p.bad + 1) < b then ⟨.locked, 0, min 64 (p.bad + 1)⟩
    else if p.state = .locked then ⟨.seeking, 0, 0⟩ else ⟨.seeking, 0, min 64 (p.bad + 1)⟩ := by
  rcases p.judgeBad_cases b with ⟨h, _⟩ | ⟨h, e⟩ | ⟨h, k, e⟩ | ⟨h, k, e⟩
  · exact absurd h hd
  · simp [h, e]
  · rw [e, if_neg (by omega), if_pos h]
  · rw [e, if_pos ⟨h, k⟩]

/-- R7, R11, R12, R16: a bad frame period at Port D, Port D and the turnaround state settled to chain record `d`. -/
theorem State.badReturn_eq (o : Option (List Byte)) (s : State) :
    let p := s.chain.portD.judgeBad s.chain.lockB
    let d := ({ s.chain with portD := p } : Chain).settleTurnaround
    s.badReturn o = { s with
      chain := { d with txU := if d.turnaround = .chainEnd then d.txU else if d.leader then none else o }
      events := { s.events with
        latch := s.events.latch ||| Event.word .badFrame |||
          (if s.chain.portD.state = .locked ∧ p.state ≠ .locked then Event.word .chainD else 0) |||
          (if topologyChanged s.chain.turnaround d.turnaround then Event.word .topology else 0)
        badD := countUp top32 s.events.badD 1 } } := by
  intro p d
  unfold State.badReturn
  rw [State.passBadReturn_txU, State.setPortD_eq]
  rfl

/-- Settles O42. -/
theorem badReturnFrameIsForwarded : Obligations.BadReturnFrameIsForwarded := by
  intro s c octets b hr hc
  refine ⟨exec_badReturn_none hr hc, fun hd hs => ?_⟩
  refine ⟨_, exec_badReturn hr hc hd hs, ?_⟩
  have hu : (s.setHoldPulled b).findSyncD = { s with pins := ⟨false, b⟩, chain := { s.chain with syncD := true } } := by
    rw [State.setHoldPulled_high hr]
    rfl
  rw [hu, State.badReturn_eq]
  dsimp only
  generalize hp : s.chain.portD.judgeBad s.chain.lockB = p
  have hj := hp.symm.trans (PortRx.judgeBad_eq s.chain.lockB hd)
  set e : Chain := { s.chain with syncD := true, portD := p } with he
  have hf := e.settleTurnaround_eq
  obtain ⟨hl, _, _, hpd, _, _, _, _, _, _, htu, _, _⟩ := e.settleTurnaround_frame
  refine ⟨rfl, ?_, hpd.trans hj, ?_, ?_, fun hlaw => ?_⟩
  · simp [Events.latched, Event.word_bit]
  · rw [htu, hl]
  · generalize e.settleTurnaround = d at hf hpd
    rw [hf]
  · rw [hpd]
    rcases Chain.setPortD_cases (c := { s.chain with syncD := true }) hlaw.1 p with
      ⟨_, ho, hk, _⟩ | ⟨h, ho, hn, k⟩ | ⟨_, hn, k⟩
    · exact absurd (PortRx.locked_of_judgeBad (hp ▸ hk)) ho
    · have h' : s.chain.turnaround = .through := h
      have ho' : s.chain.portD.state = .locked := ho
      have hc' : s.chain.turnaround = .through ∧ e.portD.state ≠ .locked := ⟨h, hn⟩
      rw [if_pos hc', if_pos hc']
      rw [← he] at k
      rw [k]
      simp [h', ho', he, hn, topologyChanged]
    · have hn' : ¬(s.chain.turnaround = .through ∧ e.portD.state ≠ .locked) := hn
      rw [if_neg hn', if_neg hn']
      rw [← he] at k
      rw [k]
      simp [he]

end Sys2Proof.Machine
end

section
/-!
PROOFS. Settles O43: the events that end a count, each taken alone (R13, R49, R50, R80, R139, R140; log 4).
-/

namespace Sys2Proof.Machine

/-- R80: a cleared position reads 0, every other as before, in a memory of any form. -/
theorem SampleMem.read_clearRange_eq (m : SampleMem) (lo hi p : Nat) :
    (m.clearRange lo hi).read p = if lo ≤ p ∧ p < hi then 0 else m.read p := by
  induction m with
  | nil => exact (ite_self _).symm
  | cons c rest ih =>
    obtain ⟨q, v⟩ := c
    unfold SampleMem.clearRange at ih ⊢
    rw [List.filter_cons]
    by_cases hq : lo ≤ q ∧ q < hi
    · rw [if_neg (by simp [hq.1, hq.2]), ih]
      by_cases hp : q = p
      · subst hp
        rw [if_pos hq, if_pos hq]
      · rw [SampleMem.read, if_neg hp]
    · rw [if_pos (by simp only [Bool.not_eq_true', Bool.and_eq_false_iff, decide_eq_false_iff_not]; omega), SampleMem.read, ih, SampleMem.read]
      by_cases hp : q = p
      · subst hp
        rw [if_pos rfl, if_neg hq, if_pos rfl]
      · rw [if_neg hp, if_neg hp]

/-- R18: an event of a computation while computations run. -/
theorem State.next_whileComputing {s : State} (h : s.computes = true) (t : State) :
    (Host.Outcome.next (s.whileComputing t) : Answer) = .next t := by
  simp [State.whileComputing, h]

/-- R80: the eighth clearing computation. -/
theorem RevCore.shapedEvent_eq {c : RevCore} (hs : c.state = .shaping) (hc : c.clearCount = 7) :
    c.shapedEvent = { c with state := .shaped, clearCount := 8, mem := c.mem.clearRange 14336 16384 } := by
  unfold RevCore.shapedEvent
  rw [if_pos ⟨hs, hc.ge⟩]
  simp [RevCore.clearStep, hc]

/-- R49, R50: the last hanging tick. -/
theorem Pickup.hangExpire_eq {p : Pickup} (he : p.enable = true) (hg : p.gate = .hanging) (hc : p.hangCount ≤ 1)
    (hp : p.peak < gain p.closeCode) : p.hangExpire =
      { p with gate := .closed, hangCount := 0, level := ramp p.level p.floorCode p.release } := by
  unfold Pickup.hangExpire
  rw [if_pos ⟨he, hg, hc, hp⟩]
  rfl

/-- R139: the end of the quiet hold. -/
theorem Guard.holdExpired_eq (g : Guard) : g.holdExpired = { g with
    timer := 0, state := if g.trim = 0 then .watch else .recover, count := if g.trim = 0 then 0 else g.interval } := by
  unfold Guard.holdExpired
  split <;> rfl

/-- R140: the end of the recovery count. -/
theorem Guard.recoveryStep_eq {g : Guard} (h : g.state = .recover) : g.recoveryStep = { g with
    trim := g.trim - 1, state := if g.trim ≤ 1 then .watch else .recover
    count := if g.trim ≤ 1 then 0 else g.interval } := by
  unfold Guard.recoveryStep
  split
  · rename_i ht
    have : g.trim - 1 = 0 := by omega
    simp [this]
  · rw [← h]

/-- Settles O43, event by event. -/
theorem countsRunOut : Obligations.CountsRunOut := by
  refine ⟨fun s hr => ⟨fun hd hc => ?_, fun h => ?_⟩, fun s c hk hs hc => ?_, fun s i hk he hg hc hp => ?_,
    fun s f hk he => ⟨fun hs ht => ?_, fun hs ht => ?_⟩⟩
  · refine congrArg _ ((State.unlessHeld_high hr _).trans ?_)
    exact if_pos ⟨hd, hc⟩
  · refine congrArg _ ((State.unlessHeld_high hr _).trans ?_)
    refine if_neg fun ⟨hd, hc⟩ => ?_
    rcases h with h | h
    · simp [h] at hd
    · omega
  · refine ⟨_, State.next_whileComputing hk _, rfl, fun d hd => Bank.get_modify_of_ne _ hd _, ?_, ?_⟩
    · rw [Bank.get_modify_self, RevCore.shapedEvent_eq hs hc]
    · intro p
      rw [Bank.get_modify_self, RevCore.shapedEvent_eq hs hc]
      exact SampleMem.read_clearRange_eq _ _ _ p
  · refine ⟨_, State.next_whileComputing hk _, rfl, fun d hd => Bank.get_modify_of_ne _ hd _, ?_⟩
    rw [Bank.get_modify_self]
    exact Pickup.hangExpire_eq he hg hc hp
  · refine ⟨_, State.next_whileComputing hk _, rfl, fun d hd => Bank.get_modify_of_ne _ hd _, ?_⟩
    rw [Bank.get_modify_self, if_pos ⟨he, hs, ht⟩]
    exact Guard.holdExpired_eq _
  · refine ⟨_, State.next_whileComputing hk _, rfl, fun d hd => Bank.get_modify_of_ne _ hd _, ?_⟩
    rw [Bank.get_modify_self, if_pos ⟨he, hs, ht⟩]
    exact Guard.recoveryStep_eq hs

end Sys2Proof.Machine
end

section
/-!
PROOFS. Settles O52: EVENTS_CLEAR, EVENTS_MASK, CHAIN_SET and PATTERN_SET (R6, R178, R180, R182, R187, R192).
-/

namespace Sys2Proof.Machine

/-- R187: bit by bit, a cleared latch word keeps the latches that the mask leaves out. -/
theorem Events.clear_latch_bit (m : BitVec 32) (ev : Events) {i : Nat} (hi : i < 23) :
    (ev.clear m).latch.getLsbD i = (ev.latch.getLsbD i && !m.getLsbD i) := by
  simp [Events.clear, hi]

/-- R187: bit by bit, a new mask word is the word's. -/
theorem Events.remask_mask_bit (m : BitVec 32) (ev : Events) {i : Nat} (hi : i < 23) :
    (ev.remask m).mask.getLsbD i = m.getLsbD i := by
  simp [Events.remask, hi]

/-- R178: a slot is held when some feed holds it. -/
theorem Level.slotHeld_iff (x : Fin 128) (l : Level) : l.slotHeld x = true ↔ ∃ f, (l.feeds.get f).slot = some x := by
  simp [Level.slotHeld, Bank.any_iff]

/-- R176, R178, R182: PATTERN_SET's tests in their order. -/
theorem judgePatternSet_eq {p : List Byte} {s : State} {g c : Fin 128} (hg : at8 p 1 = g.val) (hc : at8 p 3 = c.val) :
    judgePatternSet p s = if onOff (at8 p 0) && s.level.slotHeld g then .refused .slotTaken
      else applied { s with
        pattern := s.pattern.configure ⟨onOff (at8 p 0), g, onOff (at8 p 2), c, clamp 1 65535 (at16 p 4)⟩ } := by
  unfold judgePatternSet
  rw [index?_val hg, index?_val hc]

theorem judgePatternSet_badIndex {p : List Byte} {s : State} (h : 127 < at8 p 1 ∨ 127 < at8 p 3) :
    judgePatternSet p s = .refused .badIndex := by
  unfold judgePatternSet
  rcases h with h | h
  · rw [index?_of_ge (by omega)]
  · rw [index?_of_ge (x := at8 p 3) (by omega)]
    split
    · rename_i h1 h2; cases h2
    · rfl

section
variable {s : State} {e : Entry} {rest : List Entry}

/-- R162: a taken posted command of the right length, outside QUIET, is settled by its own tests. -/
theorem State.Takes.posted {kind : Byte} {n : Nat} (h : s.Takes e rest kind n) (hq : s.hold.condition ≠ .quiet)
    (inQuiet : Bool) (judge : List Byte → State → Verdict) :
    s.laneCommand kind false (judged inQuiet n judge) .queued =
      (s.popQueue rest).settle e (judge e.params (s.popQueue rest)) := by
  rw [h.laneCommand, State.carryOut_posted, judged_ready (s := s.popQueue rest) hq h.2.2.2.1]

/-- R162: the same in every condition for a kind that QUIET admits. -/
theorem State.Takes.admitted {kind : Byte} {n : Nat} (h : s.Takes e rest kind n) (judge : List Byte → State → Verdict) :
    s.laneCommand kind false (judged true n judge) .queued =
      (s.popQueue rest).settle e (judge e.params (s.popQueue rest)) := by
  rw [h.laneCommand, State.carryOut_posted, judged_admitted h.2.2.2.1]

end

/-- Settles O52, command by command. -/
theorem eventChainAndPatternSettings : Obligations.EventChainAndPatternSettings := by
  refine ⟨⟨fun s e rest h => ?_, fun s e rest h hq => ?_⟩, fun s e rest h hq => ?_, fun s e rest h hq =>
    ⟨fun hi => ?_, fun g c hg hc => ⟨fun ho hf => ?_, fun hf => ?_⟩⟩⟩
  · exact ⟨_, congrArg _ (h.admitted _), fun i hi => Events.clear_latch_bit _ _ hi⟩
  · exact ⟨_, congrArg _ (h.posted hq _ _), fun i hi => Events.remask_mask_bit _ s.events hi⟩
  · exact congrArg _ (h.posted hq _ _)
  · refine congrArg _ ((h.posted hq _ _).trans ?_)
    rw [judgePatternSet_badIndex hi]
    rfl
  · refine congrArg _ ((h.posted hq _ _).trans ?_)
    have hs : (s.popQueue rest).level.slotHeld g = true := (Level.slotHeld_iff g s.level).2 hf
    rw [judgePatternSet_eq hg hc, hs, if_pos (by simp [onOff, ho])]
    rfl
  · have hs : (onOff (at8 e.params 0) && (s.popQueue rest).level.slotHeld g) = false := by
      rcases hf with hf | hf
      · simp [onOff, hf]
      · have : s.level.slotHeld g = false := by
          rw [← Bool.not_eq_true, Level.slotHeld_iff]
          exact fun ⟨f, hk⟩ => hf f hk
        simp [this]
    refine ⟨s.pattern.configure ⟨onOff (at8 e.params 0), g, onOff (at8 e.params 2), c,
      clamp 1 65535 (at16 e.params 4)⟩, congrArg _ ((h.posted hq _ _).trans ?_), rfl, rfl, rfl, rfl, rfl, ?_, rfl, rfl,
      rfl, rfl, ?_, ?_⟩
    · rw [judgePatternSet_eq hg hc, hs]
      rfl
    · by_cases h0 : at8 e.params 0 = 0 <;> simp [Pattern.configure, onOff, h0]
    · by_cases h2 : at8 e.params 2 = 0 <;> simp [Pattern.configure, onOff, h2]
    · by_cases h2 : at8 e.params 2 = 0 <;> simp [Pattern.configure, onOff, h2]

end Sys2Proof.Machine
end

section
/-!
PROOFS. Settles O35: a member's Port U leaves LOCKED (R5, R7, R15, R16, R54, R74, R94, R143, R147, R150, R159).
-/

namespace Sys2Proof.Machine

/-! ## Latches on a condition -/

@[simp] theorem State.latchIf_events (b : Bool) (e : Event) (s : State) : (s.latchIf b e).events =
    { s.events with latch := s.events.latch ||| if b then e.word else 0 } := by
  rw [State.latchIf_eq]

/-- R186: an event's word, set on a condition, has its own bit alone. -/
@[simp] theorem Event.wordIf_bit (b : Bool) (e f : Event) :
    (if b then e.word else 0 : BitVec 23).getLsbD f.bit = (b && decide (e = f)) := by
  cases b <;> simp [Event.word_bit]

/-- R187: a latch is the bit of its word. -/
theorem Events.latched_eq (ev : Events) (e : Event) : ev.latched e = ev.latch.getLsbD e.bit := rfl

/-! ## Entry into ISOLATED -/

/-- R54, R74, R94: the memories cleared. -/
theorem State.memoriesCleared_of {s t : State} (hp : t.pickups = s.pickups.map Pickup.silence)
    (hb : t.buffer = Bank.fill 16 BufferEntry.cleared) (hd : t.delay = Bank.fill 48 [])
    (hc : t.cores = s.cores.map RevCore.silence) (ht : t.taps = { s.taps with peaks := Bank.fill 32 0 }) :
    s.MemoriesCleared t := by
  simp only [State.MemoriesCleared, hp, hb, hd, hc, ht, Bank.get_fill, Bank.get_map]
  simp [BufferEntry.cleared, Pickup.silence, RevCore.silence]

/-- R147: with the set not empty the hold level 1024 is HELD. -/
theorem holdStateOf_held {b : Bool} (h : b = true) : holdStateOf b 1024 = .held := by simp [holdStateOf, h]

/-- R15, R143, R147: a RUNNING part becomes ISOLATED. -/
theorem State.isolate_running {s : State} (h : s.hold.condition = .running) :
    s.isolate.hold = { s.hold with link := true, state := .held, condition := .isolated } ∧
    s.isolate.level = { s.level with hold := 1024 } ∧ s.MemoriesCleared s.isolate ∧
    s.isolate.guards = s.guards.map Guard.isolate ∧
    s.isolate.events = { s.events with
      latch := s.events.latch ||| if !s.hold.state.holds then Event.word .holdEntered else 0 } := by
  have hh : ({ s.hold with condition := .isolated, link := true } : Hold).any = true := by simp [Hold.any]
  unfold State.isolate
  rw [h]
  dsimp only
  refine ⟨?_, ?_, State.memoriesCleared_of ?_ ?_ ?_ ?_ ?_, ?_, ?_⟩
  · simp [holdStateOf, Hold.any]
  · simp [State.holdAtOnce]
  · simp [State.clearMemories]
  · simp [State.clearMemories]
  · simp [State.clearMemories]
  · simp [State.clearMemories]
  · simp [State.clearMemories]
  · simp
  · simp [State.holdAtOnce, State.formHold, holdStateOf, Hold.any, HoldState.holds]

/-- R15: in the other conditions LINK alone is added. -/
theorem State.isolate_other {s : State} (h : s.hold.condition ≠ .running) :
    s.isolate = { s with hold := { s.hold with link := true } } := by
  unfold State.isolate
  split
  · exact absurd ‹_› h
  · rfl
  · rfl

/-- R15, R159: every message in assembly broken, counted and latched. -/
theorem State.breakContexts_eq (s : State) : s.breakContexts = { s with
    lane := { s.lane with contexts := Bank.fill 16 none }
    events := { s.events with
      latch := s.events.latch |||
        if decide (0 < s.lane.contexts.count Option.isSome) then Event.word .laneBroken else 0
      broken := countUp top32 s.events.broken (s.lane.contexts.count Option.isSome) } } := by
  unfold State.breakContexts
  rw [State.latchIf_eq]

/-! ## Port U leaves LOCKED -/

/-- R15: what stands before the loss takes its course: the pins, the mark of a sync pattern, a bad frame counted. -/
def State.losing (x : Pins) (sync : Bool) (latch : BitVec 23) (bad : Nat) (s : State) : State :=
  { s with
    pins := x, chain := { s.chain with syncU := sync }, events := { s.events with latch := latch, badU := bad } }

/-- R15, R147: the events of an entry into ISOLATED. -/
theorem State.isolate_events (s : State) : s.isolate.events = { s.events with
    latch := s.events.latch |||
      if s.hold.condition == .running && !s.hold.state.holds then Event.word .holdEntered else 0 } := by
  by_cases h : s.hold.condition = .running
  · rw [(State.isolate_running h).2.2.2.2, h]
    rfl
  · rw [State.isolate_other h]
    simp [h]

/-- R15: what the loss sets before the part enters ISOLATED. -/
def State.unlocking (p : PortRx) (s : State) : State :=
  { s.latch .chainU with
    chain := { s.chain with portU := p, turnaround := .detached, discard := false, switchOpen := false }
    lane := { s.lane with sent := 0 } }

theorem State.unlockU_eq (s : State) (p : PortRx) : s.unlockU p = (s.unlocking p).isolate.breakContexts := rfl

/-- R15, R147, R159: the events of the loss: CHAIN_U, HOLD_ENTERED on entry, LANE_BROKEN and its count. -/
theorem State.unlockU_events (s : State) (p : PortRx) : (s.unlockU p).events = { s.events with
    latch := s.events.latch ||| Event.word .chainU |||
      (if s.hold.condition == .running && !s.hold.state.holds then Event.word .holdEntered else 0) |||
      (if decide (0 < s.lane.contexts.count Option.isSome) then Event.word .laneBroken else 0)
    broken := countUp top32 s.events.broken (s.lane.contexts.count Option.isSome) } := by
  have hl : (s.unlocking p).isolate.lane = { s.lane with sent := 0 } := by
    rw [(State.isolate_frame _).2.2.2.2.2.1]
    rfl
  rw [State.unlockU_eq, State.breakContexts_eq, State.isolate_events, hl]
  rfl

/-- R15, R147, R159: the latches of the loss. -/
theorem State.unlockU_latched (s : State) (p : PortRx) (e : Event) : (s.unlockU p).events.latched e =
    (s.events.latched e || decide (.chainU = e) ||
      (s.hold.condition == .running && !s.hold.state.holds && decide (.holdEntered = e)) ||
      (decide (0 < s.lane.contexts.count Option.isSome) && decide (.laneBroken = e))) := by
  rw [Events.latched_eq, State.unlockU_events]
  simp only [BitVec.getLsbD_or, Event.word_bit, Event.wordIf_bit, Events.latched_eq]

/-- R147: HOLD_ENTERED is latched on entry from RUNNING or RESUMING. -/
theorem HoldState.holds_eq_false_iff (h : HoldState) : h.holds = false ↔ h = .running ∨ h = .resuming := by
  cases h <;> simp [HoldState.holds]

/-- R15, R16, R143, R147, R150, R159: the loss, from `s` with a bad frame counted or not. -/
theorem State.lostUpstream_unlockU (s : State) (x : Pins) (sync : Bool) (l : BitVec 23) (n : Nat) (p : PortRx)
    (hl : ∀ e : Event, e ≠ .badFrame → l.getLsbD e.bit = s.events.latched e) :
    s.LostUpstream ((s.losing x sync l n).unlockU p) := by
  have hlatch : ∀ e, ((s.losing x sync l n).unlockU p).events.latched e =
      (l.getLsbD e.bit || decide (.chainU = e) ||
        (s.hold.condition == .running && !s.hold.state.holds && decide (.holdEntered = e)) ||
        (decide (0 < s.lane.contexts.count Option.isSome) && decide (.laneBroken = e))) :=
    State.unlockU_latched _ p
  refine ⟨?_, fun hc => ?_, fun hc => ?_, ?_, ?_, ?_, ?_, ?_, fun e he => ?_, ?_, ?_, ?_, ?_, ?_⟩
  · rw [State.unlockU_chain]
    rfl
  · obtain ⟨h1, h2, h3, h4, _⟩ := State.isolate_running (s := (s.losing x sync l n).unlocking p) hc
    rw [State.unlockU_eq, State.breakContexts_eq]
    refine ⟨h1, h2, h3, fun f => ?_⟩
    rw [h4, Bank.get_map]
    rfl
  · have h := State.isolate_other (s := (s.losing x sync l n).unlocking p) hc
    rw [State.unlockU_eq, State.breakContexts_eq, h]
    exact ⟨rfl, rfl, rfl, rfl, rfl, rfl, rfl, rfl⟩
  · rw [State.unlockU_eq, State.breakContexts_eq, (State.isolate_frame _).2.2.2.2.2.1]
    rfl
  · rw [State.unlockU_events]
    rfl
  · rw [hlatch]
    simp
  · rw [hlatch, hl .holdEntered nofun]
    simp [HoldState.holds_eq_false_iff]
  · rw [hlatch, hl .laneBroken nofun]
    simp
  · simp only [List.mem_cons, List.not_mem_nil, or_false, not_or] at he
    obtain ⟨h1, h2, h3, h4⟩ := he
    rw [hlatch, hl _ h4]
    simp [Ne.symm h1, Ne.symm h2, Ne.symm h3]
  · simp [State.losing]
  · simp [State.losing]
  · simp [State.losing]
  · simp [State.losing]
  · simp [State.losing]

/-- R7, R15: a bad frame period at a member's LOCKED Port U that brings its bad run to B. -/
theorem State.badOutbound_unlocks {s : State} (hu : s.chain.portU.state = .locked)
    (hb : s.chain.lockB ≤ min 64 (s.chain.portU.bad + 1)) (o : Option (List Byte)) :
    s.badOutbound o = (s.countBadU.unlockU ⟨.seeking, 0, 0⟩).sendD o := by
  have hp : s.chain.portU.judgeBad s.chain.lockB = ⟨.seeking, 0, 0⟩ := by
    simp only [PortRx.judgeBad, hu]
    exact if_pos hb
  unfold State.badOutbound
  simp [hu, hp]

/-- R7, R15: what that bad frame period leaves. -/
theorem State.badOutbound_loses {s u : State} {b : Bool} (hu : s.chain.portU.state = .locked)
    (hb : s.chain.lockB ≤ min 64 (s.chain.portU.bad + 1))
    (he : u = { s with pins := ⟨false, b⟩, chain := { s.chain with syncU := true } }) (o : Option (List Byte)) :
    s.LostUpstream (u.badOutbound o) ∧ (u.badOutbound o).pins = ⟨false, b⟩ ∧
    (u.badOutbound o).chain.portU = ⟨.seeking, 0, 0⟩ ∧ (u.badOutbound o).chain.syncU = true ∧
    (u.badOutbound o).chain.txD = o ∧ (u.badOutbound o).events.badU = min top32 (s.events.badU + 1) ∧
    (u.badOutbound o).events.latched .badFrame = true := by
  have hc : u.countBadU = s.losing ⟨false, b⟩ true (s.events.latch ||| Event.word .badFrame)
      (min top32 (s.events.badU + 1)) := by
    rw [he]
    rfl
  have hl : ∀ e : Event, e ≠ .badFrame →
      (s.events.latch ||| Event.word .badFrame).getLsbD e.bit = s.events.latched e := fun e hne => by
    simp [Event.word_bit, Ne.symm hne, Events.latched_eq]
  have hlost := s.lostUpstream_unlockU ⟨false, b⟩ true _ (min top32 (s.events.badU + 1)) ⟨.seeking, 0, 0⟩ hl
  rw [State.badOutbound_unlocks (by rw [he]; exact hu) (by rw [he]; exact hb), hc]
  refine ⟨?_, ?_, ?_, ?_, rfl, ?_, ?_⟩
  · obtain ⟨hch, rest⟩ := hlost
    exact ⟨by rw [State.sendD_chain, hch], rest⟩
  · simp [State.losing]
  · simp
  · simp [State.losing]
  · rw [State.sendD_events, State.unlockU_events]
    rfl
  · rw [State.sendD_events, State.unlockU_latched]
    simp [State.losing, Events.latched_eq, Event.word_bit]

/-- Settles O35: loss of activity, a bad frame, a missing sync pattern. -/
theorem upstreamLossIsolates : Obligations.UpstreamLossIsolates := by
  intro s hr hl hu
  have hd : s.chain.portU.state ≠ .down := by simp [hu]
  refine ⟨⟨_, exec_lineActivityLost_U hr, ?_⟩, fun hb => ⟨fun o b hf => ?_, fun b hs => ?_⟩⟩
  · have hk : s.loseU = (s.losing s.pins s.chain.syncU s.events.latch s.events.badU).unlockU PortRx.down := by
      unfold State.loseU
      rw [if_neg (by simp [hl]), hu]
      rfl
    rw [hk]
    refine ⟨s.lostUpstream_unlockU _ _ _ _ _ fun e _ => rfl, ?_, ?_, ?_, ?_, ?_, ?_⟩
    · simp [State.losing]
    · simp [PortRx.down]
    · simp [State.losing]
    · simp [State.losing]
    · rw [State.unlockU_events]
      rfl
    · rw [State.unlockU_latched]
      simp [State.losing, Events.latched_eq]
  · refine ⟨_, exec_outboundFrameReceive_bad hr hl hd hf, State.badOutbound_loses hu hb ?_ _⟩
    rw [State.setHoldPulled_high hr]
    rfl
  · refine ⟨_, exec_syncMissingPeriod_U hr hl hd hs, State.badOutbound_loses hu hb ?_ _⟩
    rw [State.setHoldPulled_high hr, ← hs]

end Sys2Proof.Machine
end

section
/-!
PROOFS. Settles O16: the 415 octets of a frame give the frame back (R3, R4, R168).
-/

namespace Sys2Proof.Machine

/-! ## Octets -/

@[simp] theorem octet_toNat (x : Nat) : (octet x).toNat = x % 256 := by simp [octet]

@[simp] theorem octets2_length (x : Nat) : (octets2 x).length = 2 := rfl
@[simp] theorem octets3_length (x : Nat) : (octets3 x).length = 3 := rfl
@[simp] theorem octets4_length (x : Nat) : (octets4 x).length = 4 := rfl

/-- A bank's list read at a place of the bank. -/
theorem Bank.items_getD {n : Nat} {α : Type} (b : Bank n α) (i : Fin n) (d : α) : b.items.getD i.val d = b.get i := by
  simp [Bank.get, List.getD, b.size]

/-- An octet string between two others. -/
theorem getD_between {pre mid suf : List Byte} {n i : Nat} (hn : pre.length = n) (hi : i < mid.length) :
    (pre ++ mid ++ suf).getD (n + i) 0 = mid.getD i 0 := by
  subst hn
  rw [List.append_assoc, List.getD_append_right _ _ _ _ (by omega), Nat.add_sub_cancel_left,
    List.getD_append _ _ _ _ hi]

theorem at8_between {pre mid suf : List Byte} {n i : Nat} (hn : pre.length = n) (hi : i < mid.length) :
    at8 (pre ++ mid ++ suf) (n + i) = at8 mid i := by
  unfold at8
  rw [getD_between hn hi]

/-- R167: two octets give back a number of 16 bits. -/
theorem at16_octets2 {x : Nat} (h : x < 65536) : at16 (octets2 x) 0 = x := by
  simp [at16, at8, octets2]
  omega

/-- R167: three octets give back a number of 24 bits. -/
theorem at24_octets3 {x : Nat} (h : x < 16777216) : at8 (octets3 x) 0 * 65536 + at16 (octets3 x) 1 = x := by
  simp [at16, at8, octets3, octets2]
  omega

/-- R167: four octets give back a number of 32 bits. -/
theorem at32_octets4 (x : BitVec 32) : at32 (octets4 x.toNat) 0 = x := by
  have h := x.isLt
  apply BitVec.eq_of_toNat_eq
  simp [at32, at16, at8, octets4, octets3, octets2]
  omega

/-- R168: octet `j` of the `i`-th sample of a slot list. -/
theorem getD_flatMap_octets3 (l : List Sample) (i j : Nat) (hi : i < l.length) (hj : j < 3) :
    (l.flatMap fun x => octets3 x.toNat).getD (3 * i + j) 0 = (octets3 (l.getD i 0).toNat).getD j 0 := by
  induction l generalizing i with
  | nil => simp at hi
  | cons x l ih =>
    rw [List.flatMap_cons]
    cases i with
    | zero => rw [List.getD_append _ _ _ _ (by simpa using hj)]; simp
    | succ i =>
      rw [List.getD_append_right _ _ _ _ (by simp; omega)]
      have : 3 * (i + 1) + j - (octets3 x.toNat).length = 3 * i + j := by simp; omega
      rw [this, ih i (by simpa using hi)]
      simp

theorem length_flatMap_octets3 (l : List Sample) : (l.flatMap fun x => octets3 x.toNat).length = 3 * l.length := by
  induction l with
  | nil => rfl
  | cons x l ih => rw [List.flatMap_cons, List.length_append, ih]; simp; omega

/-! ## The frame's parts -/

/-- R168: the slots' octets. -/
def Frame.slotOctets (f : Frame) : List Byte := f.slots.items.flatMap fun x => octets3 x.toNat

@[simp] theorem Frame.slotOctets_length (f : Frame) : f.slotOctets.length = 384 := by
  rw [Frame.slotOctets, length_flatMap_octets3, f.slots.size]

theorem Frame.body_eq (f : Frame) : f.body =
    octets4 f.number.toNat ++ [f.flagsOctet] ++ f.slotOctets ++ f.roll.items ++ [f.segment.mark] ++
      f.segment.payload.items := rfl

theorem Frame.body_length (f : Frame) : f.body.length = 413 := by
  simp [Frame.body_eq, f.roll.size, f.segment.payload.size]

theorem Frame.octets_length (f : Frame) : f.octets.length = 415 := by
  simp [Frame.octets, Frame.body_length, crcOctets]

theorem Frame.take_octets (f : Frame) : f.octets.take 413 = f.body :=
  List.take_left' f.body_length

/-- R3: the last two octets are the check of the others. -/
theorem Frame.octets_check (f : Frame) : at16 f.octets 413 = (crc16 f.body).toNat := by
  have h : ∀ i < 2, at8 f.octets (413 + i) = at8 (crcOctets f.body) i := fun i hi => by
    have := at8_between (pre := f.body) (mid := crcOctets f.body) (suf := []) f.body_length (i := i) hi
    rwa [List.append_nil] at this
  have := at16_octets2 (crc16 f.body).isLt
  rw [at16, h 0 (by omega), h 1 (by omega)]
  exact this

/-- R168: the number's octets. -/
theorem Frame.octets_number (f : Frame) : at32 f.octets 0 = f.number := by
  have h : ∀ i < 4, at8 f.octets i = at8 (octets4 f.number.toNat) i := fun i hi => by
    unfold at8 Frame.octets Frame.body
    simp only [List.append_assoc]
    rw [List.getD_append _ _ _ _ (by simpa using hi)]
  rw [← at32_octets4 f.number]
  simp only [at32, at16, h 0 (by omega), h 1 (by omega), h 2 (by omega), h 3 (by omega)]

/-- R168: octet 4. -/
theorem Frame.octets_flags (f : Frame) : f.octets.getD 4 0 = f.flagsOctet := by
  have := getD_between (pre := octets4 f.number.toNat) (mid := [f.flagsOctet])
    (suf := f.slotOctets ++ f.roll.items ++ [f.segment.mark] ++ f.segment.payload.items ++ crcOctets f.body)
    (n := 4) (i := 0) rfl (by simp)
  simpa [Frame.octets, Frame.body_eq] using this

/-- R168: the octets of the slots. -/
theorem Frame.octets_slots (f : Frame) {i : Nat} (hi : i < 384) : f.octets.getD (5 + i) 0 = f.slotOctets.getD i 0 := by
  have := getD_between (pre := octets4 f.number.toNat ++ [f.flagsOctet]) (mid := f.slotOctets)
    (suf := f.roll.items ++ [f.segment.mark] ++ f.segment.payload.items ++ crcOctets f.body)
    (n := 5) rfl (f.slotOctets_length.symm ▸ hi)
  simpa [Frame.octets, Frame.body_eq] using this

/-- R168: the octets of the roll call. -/
theorem Frame.octets_roll (f : Frame) (i : Fin 16) : f.octets.getD (389 + i.val) 0 = f.roll.get i := by
  have := getD_between (pre := octets4 f.number.toNat ++ [f.flagsOctet] ++ f.slotOctets) (mid := f.roll.items)
    (suf := [f.segment.mark] ++ f.segment.payload.items ++ crcOctets f.body)
    (n := 389) (i := i.val) (by simp) (by rw [f.roll.size]; exact i.isLt)
  rw [← Bank.items_getD _ i 0, ← this]
  simp [Frame.octets, Frame.body_eq]

/-- R168, R170: the mark octet of the segment. -/
theorem Frame.octets_mark (f : Frame) : f.octets.getD 405 0 = f.segment.mark := by
  have := getD_between (pre := octets4 f.number.toNat ++ [f.flagsOctet] ++ f.slotOctets ++ f.roll.items)
    (mid := [f.segment.mark]) (suf := f.segment.payload.items ++ crcOctets f.body)
    (n := 405) (i := 0) (by simp [f.roll.size]) (by simp)
  simpa [Frame.octets, Frame.body_eq] using this

/-- R168, R170: the payload octets of the segment. -/
theorem Frame.octets_payload (f : Frame) (i : Fin 7) :
    f.octets.getD (406 + i.val) 0 = f.segment.payload.get i := by
  have := getD_between
    (pre := octets4 f.number.toNat ++ [f.flagsOctet] ++ f.slotOctets ++ f.roll.items ++ [f.segment.mark])
    (mid := f.segment.payload.items) (suf := crcOctets f.body)
    (n := 406) (i := i.val) (by simp [f.roll.size]) (by rw [f.segment.payload.size]; exact i.isLt)
  rw [← Bank.items_getD _ i 0, ← this]
  simp [Frame.octets, Frame.body_eq]

/-- R168: the flags of octet 4. -/
theorem flagsOctet_bits : ∀ (r t : Bool) (a : Fin 16),
    (octet ((if r then 128 else 0) + (if t then 64 else 0) + a.val)).getLsbD 7 = r ∧
    (octet ((if r then 128 else 0) + (if t then 64 else 0) + a.val)).getLsbD 6 = t ∧
    (octet ((if r then 128 else 0) + (if t then 64 else 0) + a.val)).toNat % 16 = a.val := by
  decide

/-- R168: slot `i`. -/
theorem Frame.slotAt_octets (f : Frame) (i : Fin 128) : slotAt f.octets i = f.slots.get i := by
  have hi := i.isLt
  have h : ∀ j < 3, at8 f.octets (5 + 3 * i.val + j) = at8 (octets3 (f.slots.get i).toNat) j := fun j hj => by
    unfold at8
    rw [Nat.add_assoc, f.octets_slots (by omega), Frame.slotOctets,
      getD_flatMap_octets3 _ _ _ (by rw [f.slots.size]; exact hi) hj, Bank.items_getD]
  have h1 : at8 f.octets (6 + 3 * i.val) = at8 (octets3 (f.slots.get i).toNat) 1 := by
    rw [← h 1 (by omega)]; congr 1; omega
  have h2 : at8 f.octets (6 + 3 * i.val + 1) = at8 (octets3 (f.slots.get i).toNat) 2 := by
    rw [← h 2 (by omega)]; congr 1; omega
  have := at24_octets3 (f.slots.get i).isLt
  apply BitVec.eq_of_toNat_eq
  rw [slotAt, at16, h1, h2, show at8 f.octets (5 + 3 * i.val) = _ from h 0 (by omega)]
  rw [show at8 (octets3 (f.slots.get i).toNat) 0 * 65536 + (at8 (octets3 (f.slots.get i).toNat) 1 * 256 +
    at8 (octets3 (f.slots.get i).toNat) 2) = (f.slots.get i).toNat from this]
  simp

/-- R168: the octets of a frame give back its fields. -/
theorem Frame.ofOctets_octets (f : Frame) : Frame.ofOctets f.octets = f := by
  obtain ⟨h7, h6, ha⟩ := flagsOctet_bits f.ret f.turned f.turner
  have hs : Bank.ofFn (slotAt f.octets) = f.slots := Bank.ext_get fun i => by
    rw [Bank.get_ofFn, f.slotAt_octets]
  have hr : (Bank.ofFn fun i : Fin 16 => f.octets.getD (389 + i.val) 0) = f.roll := Bank.ext_get fun i => by
    rw [Bank.get_ofFn, f.octets_roll]
  have hp : (Bank.ofFn fun i : Fin 7 => f.octets.getD (406 + i.val) 0) = f.segment.payload := Bank.ext_get fun i => by
    rw [Bank.get_ofFn, f.octets_payload]
  have ht : (⟨at8 f.octets 4 % 16, Nat.mod_lt _ (by decide)⟩ : Fin 16) = f.turner := by
    refine Fin.ext ?_
    simp only [at8, f.octets_flags]
    exact ha
  simp only [Frame.ofOctets, f.octets_number, f.octets_flags, f.octets_mark, hs, hr, hp, ht]
  simp only [Frame.flagsOctet, h7, h6]

/-- Settles O16. -/
theorem frameOctetsRoundTrip : Obligations.FrameOctetsRoundTrip := by
  intro f
  have hc : checkMatches f.octets 413 = true := by
    simp [checkMatches, f.take_octets, f.octets_check]
  refine ⟨f.octets_length, f.octets_number, ?_, ?_, ?_⟩
  · rw [f.take_octets, f.octets_check]
  · simp [goodFrame?, f.octets_length, hc, f.ofOctets_octets]
  · simp [goodFrame?, f.ofOctets_octets]

end Sys2Proof.Machine
end

section
/-!
PROOFS. Settles O32: what one computation leaves in the Level Unit, the pickups, Delay Memory, the guards, the hold
state and the events (R18, R23, R29, R35, R46, R47, R52, R73, R135, R141, R146, R147).
-/

namespace Sys2Proof.Machine

/-! ## One pickup, one guard -/

/-- R42, R46: a tick moves neither a pickup's slot nor its held sample. -/
theorem Pickup.tick_input (p : Pickup) (x : Option Sample) : p.tick.input x = p.input x := by
  unfold Pickup.tick
  split
  · rw [Pickup.moveLevel_frame, Pickup.moveGate_frame]
    rfl
  · rfl

/-- R137, R138: the feed is cut. -/
theorem Guard.cuts_iff (moved : Bool) (p : Nat) (g : Guard) : g.cuts moved p = true ↔ g.IsCut moved p := by
  have hr : g.rising moved p = true ↔ g.prevPeak + g.prevPeak / 16 < p ∧ gain g.floorCode ≤ p ∧
      (if moved then 0 else min 2 (g.settle + 1)) = 2 := by
    simp [Guard.rising, Guard.settleTick, and_assoc]
  have ht : g.runTick moved p = if g.prevPeak + g.prevPeak / 16 < p ∧ gain g.floorCode ≤ p ∧
      (if moved then 0 else min 2 (g.settle + 1)) = 2 then min 64 (g.run + 1) else 0 := by
    unfold Guard.runTick
    by_cases h : g.rising moved p = true
    · rw [if_pos h, if_pos (hr.1 h)]
    · rw [if_neg h, if_neg fun k => h (hr.2 k)]
  simp only [Guard.cuts, Guard.IsCut, ht, Bool.and_eq_true, decide_eq_true_eq, ge_iff_le]

/-- R29: a feed's trim moves toward its target by 16. -/
theorem Feed.tick_eq (f : Feed) : f.tick = { f with
    trim := if f.trimTarget < f.trim then max f.trimTarget (f.trim - 16) else min f.trimTarget (f.trim + 16) } := by
  simp [Feed.tick, ramp]

variable (k : FrameNo) (s : State)

/-! ## The cue test -/

@[simp] theorem State.testCue_peaks : (s.testCue k).taps.peaks = s.taps.peaks := by
  unfold State.testCue State.fire State.fireTarget
  dsimp only
  split
  · split
    · split <;> rfl
    · rfl
  · split <;> rfl

/-- R122, R126: the cue test latches the cue's events alone, and counts nothing. -/
theorem State.testCue_events : (s.testCue k).events = { s.events with latch := (s.testCue k).events.latch } ∧
    ∀ e, e ∉ [Event.cueFired, .cueLate, .cueDeferred] → (s.testCue k).events.latched e = s.events.latched e := by
  have fired : ∀ t, (s.fireTarget t k).events = { s.events with latch := (s.fireTarget t k).events.latch } ∧
      ∀ e, e ∉ [Event.cueFired, .cueLate, .cueDeferred] → (s.fireTarget t k).events.latched e = s.events.latched e := by
    intro t
    have hl : ∀ e, s.cue.fireEvent k = some e → e = .cueLate ∨ e = .cueDeferred := by
      intro e
      unfold CueUnit.fireEvent
      split
      · nofun
      · split <;> simp +contextual [eq_comm]
    unfold State.fireTarget
    dsimp only
    split
    · rename_i e he
      refine ⟨rfl, fun e' hn => ?_⟩
      simp only [List.mem_cons, List.not_mem_nil, or_false, not_or] at hn
      obtain ⟨h1, h2, h3⟩ := hn
      rcases hl e he with rfl | rfl <;>
        simp [Events.latched_set, Ne.symm h1, Ne.symm h2, Ne.symm h3]
    · refine ⟨rfl, fun e' hn => ?_⟩
      simp only [List.mem_cons, List.not_mem_nil, or_false, not_or] at hn
      simp [Events.latched_set, Ne.symm hn.1]
  unfold State.testCue State.fire
  split
  · split
    · exact fired _
    · exact ⟨rfl, fun _ _ => rfl⟩
  · split <;> exact ⟨rfl, fun _ _ => rfl⟩

/-! ## The ramp tick -/

@[simp] theorem State.rampTick_level (b : Bool) : (s.rampTick b).level = s.level.tick s.hold.any := by
  simp [State.rampTick]

@[simp] theorem State.rampTick_pickups (b : Bool) : (s.rampTick b).pickups = s.pickups.map Pickup.tick := by
  simp [State.rampTick]

@[simp] theorem State.tickFade_peaks (b : Bool) : (s.tickFade b).taps.peaks = s.taps.peaks := by
  unfold State.tickFade
  split
  · dsimp only
    split <;> rfl
  · rfl

@[simp] theorem State.rampTick_peaks (b : Bool) : (s.rampTick b).taps.peaks = s.taps.peaks :=
  (State.tickFade_peaks _ b).trans (by simp)

/-- R147: a tick latches HOLD_ENTERED on entry into HOLDING or HELD, and nothing else. -/
theorem State.rampTick_events (b : Bool) : (s.rampTick b).events = { s.events with
    latch := s.events.latch |||
      if (s.rampTick b).hold.state.holds && !s.hold.state.holds then Event.word .holdEntered else 0 } := by
  simp [State.rampTick, State.formHold]

/-! ## The beginning of a computation -/

theorem isTick_iff : isTick k = true ↔ k.toNat % 48 = 0 := by simp [isTick]

/-- R146: the hold source set as a computation begins. -/
def State.sampledHold (s : State) : Bool := ({ s.hold with line := s.holdNLow } : Hold).any

theorem State.beginComputation_tick (h : k.toNat % 48 = 0) :
    s.beginComputation k = (s.sampleHold.testCue k).rampTick (s.sampleHold.fires k) := by
  unfold State.beginComputation
  exact if_pos ((isTick_iff k).2 h)

theorem State.beginComputation_between (h : k.toNat % 48 ≠ 0) : s.beginComputation k = s.sampleHold.testCue k := by
  unfold State.beginComputation
  exact if_neg fun c => h ((isTick_iff k).1 c)

/-- R23, R46, R47: Level Unit, pickups and running peaks as the samples of a computation find them. -/
theorem State.beginComputation_units :
    (s.beginComputation k).level = (if k.toNat % 48 = 0 then s.level.tick s.sampledHold else s.level) ∧
    (s.beginComputation k).pickups = (if k.toNat % 48 = 0 then s.pickups.map Pickup.tick else s.pickups) ∧
    (s.beginComputation k).taps.peaks = s.taps.peaks := by
  by_cases h : k.toNat % 48 = 0
  · rw [s.beginComputation_tick k h, if_pos h, if_pos h]
    simp
    rfl
  · rw [s.beginComputation_between k h, if_neg h, if_neg h]
    simp

/-- R147: the hold state as the samples of a computation find it. -/
theorem State.beginComputation_holdState : (s.beginComputation k).hold.state =
    if k.toNat % 48 = 0 then holdStateOf s.sampledHold (s.level.tick s.sampledHold).hold else s.hold.state := by
  by_cases h : k.toNat % 48 = 0
  · rw [s.beginComputation_tick k h, if_pos h]
    simp
    rfl
  · rw [s.beginComputation_between k h, if_neg h]
    simp

theorem State.beginComputation_events :
    (s.beginComputation k).events = { s.events with latch := (s.beginComputation k).events.latch } ∧
    ∀ e, e ∉ [Event.cueFired, .cueLate, .cueDeferred] → (s.beginComputation k).events.latched e =
      (s.events.latched e || (decide (k.toNat % 48 = 0) &&
        ((s.beginComputation k).hold.state.holds && !s.hold.state.holds) && decide (.holdEntered = e))) := by
  obtain ⟨he, hl⟩ := s.sampleHold.testCue_events k
  by_cases h : k.toNat % 48 = 0
  · rw [s.beginComputation_tick k h]
    refine ⟨?_, fun e hn => ?_⟩
    · rw [State.rampTick_events, he]
      rfl
    · have hs : (s.sampleHold.testCue k).hold.state = s.hold.state := by simp
      have := hl e hn
      rw [Events.latched_eq, State.rampTick_events, hs]
      rw [Events.latched_eq] at this
      simp only [BitVec.getLsbD_or, Event.wordIf_bit, this, h]
      simp [Events.latched_eq]
  · rw [s.beginComputation_between k h]
    exact ⟨he, fun e hn => by simpa [h] using hl e hn⟩

/-! ## The samples of a computation -/

theorem State.runSamples_events :
    (s.runSamples k).events = { s.events with
      latch := (s.runSamples k).events.latch
      concealed := (s.runSamples k).events.concealed
      feedClips := (s.runSamples k).events.feedClips
      coreClips := (s.runSamples k).events.coreClips } ∧
    ∀ e, e ∉ [Event.lateReturn, .feedClip, .coreClip] → (s.runSamples k).events.latched e = s.events.latched e := by
  have hp : (s.runPickups k).events = { s.events with
      latch := s.events.latch ||| if !s.entryFound k then Event.word .lateReturn else 0
      concealed := countUp top32 s.events.concealed (if s.entryFound k then 0 else 1) } := by
    simp [State.runPickups]
  unfold State.runSamples State.runCores
  simp only [State.recordPeaks_events, State.latchIf_events, State.advanceCheck_frame]
  unfold State.countFeedClips
  simp only [State.latchIf_events, hp]
  refine ⟨trivial, fun e hn => ?_⟩
  simp only [List.mem_cons, List.not_mem_nil, or_false, not_or] at hn
  obtain ⟨h1, h2, h3⟩ := hn
  simp only [Events.latched_eq, BitVec.getLsbD_or, Event.wordIf_bit]
  simp [Ne.symm h1, Ne.symm h2, Ne.symm h3]

/-- R46, R52: the pickups and Delay Memory after the samples. -/
theorem State.runSamples_pickups (i : Fin 48) :
    (s.runSamples k).pickups.get i = (s.pickups.get i).record (s.inputOf k i) ∧
    (s.runSamples k).delay.get i =
      (s.delay.get i).write (k.toNat % 32768) ((s.pickups.get i).gated (s.inputOf k i)) := by
  simp [State.runSamples, State.runPickups, delayPosition]

/-- R73: the running peaks after the samples. -/
theorem State.runSamples_peaks (f : Fin 32) :
    (s.runSamples k).taps.peaks.get f = max (s.taps.peaks.get f) (magnitude ((s.outsOf k).get f)) := by
  have h : (s.runSamples k).taps.peaks =
      (s.taps.peaks.mapIdx fun f p => max p (magnitude ((s.outsOf k).get f))) := by
    simp [State.runSamples, State.recordPeaks, State.outsOf]
  rw [h, Bank.get_mapIdx]

/-! ## The guards at a tick -/

/-- R141: the live condition of HOWL_LIMIT looks at the guards alone. -/
theorem State.liveHowlLimit_congr {s t : State} (h : t.guards = s.guards) : t.liveHowlLimit = s.liveHowlLimit := by
  simp [State.liveHowlLimit, h]

theorem State.tickGuard_guards (m : Fin 32 → Bool) (f : Fin 32) :
    (s.tickGuard m).guards.get f = (s.guards.get f).tick (m f) (s.taps.peaks.get f) := by
  simp [State.tickGuard]

theorem State.tickGuard_peaks (m : Fin 32 → Bool) (f : Fin 32) : (s.tickGuard m).taps.peaks.get f = 0 := by
  simp [State.tickGuard]

@[simp] theorem State.tickGuard_holdState (m : Fin 32 → Bool) : (s.tickGuard m).hold.state = s.hold.state := by
  rw [State.tickGuard_hold]

/-- R141: GUARD is added where an escalating feed is cut at its limit. -/
theorem State.tickGuard_hold_guard (m : Fin 32 → Bool) : (s.tickGuard m).hold.guard = true ↔ s.hold.guard = true ∨
    ∃ f, (s.guards.get f).cutsAtLimit (m f) (s.taps.peaks.get f) = true ∧ (s.guards.get f).escalate = true := by
  simp [State.tickGuard]

/-- R138, R141: the Howl Guard latches HOWL_CUT and HOWL_LIMIT alone, and counts nothing. -/
theorem State.tickGuard_events (m : Fin 32 → Bool) :
    (s.tickGuard m).events = { s.events with latch := (s.tickGuard m).events.latch } ∧
    ∀ e, (s.tickGuard m).events.latched e = true ↔ s.events.latched e = true ∨
      (∃ f, (s.guards.get f).cuts (m f) (s.taps.peaks.get f) = true) ∧ e = .howlCut ∨
      ((∃ f, (s.guards.get f).cutsAtLimit (m f) (s.taps.peaks.get f) = true) ∨
        s.liveHowlLimit = false ∧ (s.tickGuard m).liveHowlLimit = true) ∧ e = .howlLimit := by
  have hl : (s.tickGuard m).liveHowlLimit = State.liveHowlLimit { s with
      guards := s.guards.mapIdx fun f g => g.tick (m f) (s.taps.peaks.get f) } :=
    State.liveHowlLimit_congr (by simp [State.tickGuard])
  rw [hl]
  unfold State.tickGuard
  simp only [State.latchIf_events]
  refine ⟨trivial, fun e => ?_⟩
  simp only [Events.latched_eq, BitVec.getLsbD_or, Event.wordIf_bit]
  simp only [Bool.or_eq_true, Bool.and_eq_true, decide_eq_true_eq, List.any_eq_true, List.mem_finRange, true_and,
    Bool.not_eq_true']
  rw [or_assoc, @eq_comm _ e .howlCut, @eq_comm _ e .howlLimit]
  rfl

/-! ## The whole computation -/

theorem State.compute_tick (h : k.toNat % 48 = 0) : s.compute k =
    ((s.beginComputation k).runSamples k).tickGuard (levelMoved s.level (s.beginComputation k).level) := by
  unfold State.compute
  exact if_pos ((isTick_iff k).2 h)

theorem State.compute_between (h : k.toNat % 48 ≠ 0) : s.compute k = (s.beginComputation k).runSamples k := by
  unfold State.compute
  exact if_neg fun c => h ((isTick_iff k).1 c)

/-- R42, R43: the gates of a tick do not move a computation's inputs. -/
theorem State.beginComputation_inputOf (i : Fin 48) : (s.beginComputation k).inputOf k i = s.inputOf k i := by
  have hb : (s.beginComputation k).buffer = s.buffer := by simp
  have hp : ∀ x, ((s.beginComputation k).pickups.get i).input x = (s.pickups.get i).input x := fun x => by
    rw [(s.beginComputation_units k).2.1]
    split
    · rw [Bank.get_map, Pickup.tick_input]
    · rfl
  unfold State.inputOf State.entryFound
  rw [hp, hb]

/-- The units that neither the guards nor the rest of a tick touch stand as the samples leave them. -/
theorem State.compute_frame_samples :
    (s.compute k).level = (s.beginComputation k).level ∧
    (s.compute k).pickups = ((s.beginComputation k).runSamples k).pickups ∧
    (s.compute k).delay = ((s.beginComputation k).runSamples k).delay ∧
    (s.compute k).hold.state = (s.beginComputation k).hold.state := by
  by_cases h : k.toNat % 48 = 0
  · rw [s.compute_tick k h]
    simp
  · rw [s.compute_between k h]
    simp

/-- R141: a cut that finds its trim at the limit. -/
theorem Guard.cutsAtLimit_iff (moved : Bool) (p : Nat) (g : Guard) :
    g.cutsAtLimit moved p = true ↔ g.IsCut moved p ∧ g.limit ≤ g.trim := by
  simp [Guard.cutsAtLimit, Guard.cuts_iff]

/-- R138, R141: an event outside the Howl Guard's stands through its tick. -/
theorem State.tickGuard_latched_other {m : Fin 32 → Bool} {s : State} {e : Event} (h : e ∉ [Event.howlCut, .howlLimit]) :
    (s.tickGuard m).events.latched e = s.events.latched e := by
  simp only [List.mem_cons, List.not_mem_nil, or_false, not_or] at h
  rw [Bool.eq_iff_iff, (s.tickGuard_events m).2 e]
  simp [h.1, h.2]

/-- Every event but the computation's own stands. -/
theorem State.compute_events_frame :
    (s.compute k).events = { s.events with
      latch := (s.compute k).events.latch
      concealed := (s.compute k).events.concealed
      feedClips := (s.compute k).events.feedClips
      coreClips := (s.compute k).events.coreClips } := by
  have hb := (s.beginComputation_events k).1
  have hr := ((s.beginComputation k).runSamples_events k).1
  by_cases h : k.toNat % 48 = 0
  · rw [s.compute_tick k h, (State.tickGuard_events _ _).1, hr, hb]
  · rw [s.compute_between k h, hr, hb]

/-- An event that neither the cue, the samples nor the guards latch: HOLD_ENTERED, or it stands. -/
theorem State.compute_latched_other {e : Event} (h : e ∉ [Event.lateReturn, .feedClip, .coreClip, .howlCut, .howlLimit,
    .cueFired, .cueLate, .cueDeferred]) : (s.compute k).events.latched e =
      (s.events.latched e || (decide (k.toNat % 48 = 0) &&
        ((s.compute k).hold.state.holds && !s.hold.state.holds) && decide (.holdEntered = e))) := by
  simp only [List.mem_cons, List.not_mem_nil, or_false, not_or] at h
  obtain ⟨h1, h2, h3, h4, h5, h6, h7, h8⟩ := h
  rw [(s.compute_frame_samples k).2.2.2, ← (s.beginComputation_events k).2 e (by simp [h6, h7, h8]),
    ← ((s.beginComputation k).runSamples_events k).2 e (by simp [h1, h2, h3])]
  by_cases ht : k.toNat % 48 = 0
  · rw [s.compute_tick k ht, State.tickGuard_latched_other (by simp [h4, h5])]
  · rw [s.compute_between k ht]

/-- R23, R135: between ticks. -/
theorem State.compute_between_units (h : k.toNat % 48 ≠ 0) :
    (s.compute k).level = s.level ∧ (s.compute k).guards = s.guards ∧ (s.compute k).hold.state = s.hold.state ∧
    (s.compute k).hold.guard = s.hold.guard ∧
    (∀ f, (s.compute k).taps.peaks.get f = max (s.taps.peaks.get f) (magnitude ((s.computeOuts k).get f))) ∧
    ∀ e ∈ [Event.holdEntered, .howlCut, .howlLimit], (s.compute k).events.latched e = s.events.latched e := by
  obtain ⟨hl, _, hp⟩ := s.beginComputation_units k
  have hs := s.beginComputation_holdState k
  have hh := s.beginComputation_hold k
  rw [if_neg h] at hl hs
  rw [s.compute_between k h]
  refine ⟨by simp [hl], by simp, by simp [hs], by simp; rw [hh], fun f => ?_, fun e he => ?_⟩
  · rw [State.runSamples_peaks, hp]
    rfl
  · rw [((s.beginComputation k).runSamples_events k).2 e (by rintro h; revert h he; cases e <;> simp),
      (s.beginComputation_events k).2 e (by rintro h; revert h he; cases e <;> simp)]
    simp [h]

/-- R138, R141: the Howl Guard's part of a tick. -/
theorem State.compute_tick_guards (h : k.toNat % 48 = 0) (moved : Fin 32 → Bool)
    (hm : levelMoved s.level (s.compute k).level = moved) (peak : Fin 32 → Nat)
    (hp : ∀ f, ((s.beginComputation k).runSamples k).taps.peaks.get f = peak f) :
    (∀ f, (s.compute k).guards.get f = (s.guards.get f).tick (moved f) (peak f)) ∧
    ((s.compute k).hold.guard = true ↔ s.hold.guard = true ∨
      ∃ f, ((s.guards.get f).IsCut (moved f) (peak f) ∧ (s.guards.get f).limit ≤ (s.guards.get f).trim) ∧
        (s.guards.get f).escalate = true) ∧
    ((s.compute k).events.latched .howlCut = true ↔ s.events.latched .howlCut = true ∨
      ∃ f, (s.guards.get f).IsCut (moved f) (peak f)) ∧
    ((s.compute k).events.latched .howlLimit = true ↔ s.events.latched .howlLimit = true ∨
      (∃ f, (s.guards.get f).IsCut (moved f) (peak f) ∧ (s.guards.get f).limit ≤ (s.guards.get f).trim) ∨
      s.liveHowlLimit = false ∧ (s.compute k).liveHowlLimit = true) := by
  rw [(s.compute_frame_samples k).1] at hm
  have hg : ((s.beginComputation k).runSamples k).guards = s.guards := by simp
  have hh : ((s.beginComputation k).runSamples k).hold.guard = s.hold.guard := by
    simp
    rw [s.beginComputation_hold k]
  have hl : ∀ e ∈ [Event.howlCut, .howlLimit],
      ((s.beginComputation k).runSamples k).events.latched e = s.events.latched e := fun e he => by
    rw [((s.beginComputation k).runSamples_events k).2 e (by rintro h; revert h he; cases e <;> simp),
      (s.beginComputation_events k).2 e (by rintro h; revert h he; cases e <;> simp)]
    revert he
    cases e <;> simp
  rw [s.compute_tick k h, hm]
  refine ⟨fun f => ?_, ?_, ?_, ?_⟩
  · rw [State.tickGuard_guards, hg, hp]
  · simp only [State.tickGuard_hold_guard, hg, hh, hp, Guard.cutsAtLimit_iff]
  · rw [(State.tickGuard_events _ moved).2, hl .howlCut (by simp)]
    simp only [hg, hp, Guard.cuts_iff]
    simp
  · rw [(State.tickGuard_events _ moved).2, hl .howlLimit (by simp), State.liveHowlLimit_congr hg]
    simp only [hg, hp, Guard.cutsAtLimit_iff]
    simp

/-- R147: HOLDING or HELD. -/
theorem HoldState.holds_iff (h : HoldState) : h.holds = true ↔ h = .holding ∨ h = .held := by
  cases h <;> simp [HoldState.holds]

/-- R23, R29, R147: the levels and the hold state after a tick. -/
theorem State.compute_tick_levels (h : k.toNat % 48 = 0) :
    (s.compute k).level = s.level.tick s.sampledHold ∧
    (s.compute k).hold.state = holdStateOf s.sampledHold (s.compute k).level.hold ∧
    ((s.compute k).events.latched .holdEntered = true ↔ s.events.latched .holdEntered = true ∨
      ((s.compute k).hold.state = .holding ∨ (s.compute k).hold.state = .held) ∧
      (s.hold.state = .running ∨ s.hold.state = .resuming)) ∧
    ∀ f, (s.compute k).taps.peaks.get f = 0 := by
  obtain ⟨tl, -, -, th⟩ := s.compute_frame_samples k
  obtain ⟨hl, -, -⟩ := s.beginComputation_units k
  rw [if_pos h] at hl
  have hs := s.beginComputation_holdState k
  rw [if_pos h] at hs
  refine ⟨tl.trans hl, ?_, ?_, fun f => ?_⟩
  · rw [th, hs, tl, hl]
  · rw [s.compute_latched_other k (by simp)]
    simp [h, HoldState.holds_iff, HoldState.holds_eq_false_iff]
  · rw [s.compute_tick k h, State.tickGuard_peaks]

/-- Settles O32: the computation is its beginning, its samples and, at a tick, the Howl Guard's tick. -/
theorem computationMovesUnitsAtTicks : Obligations.ComputationMovesUnitsAtTicks := by
  intro s k t held gate peak
  obtain ⟨-, hpickups, hpeaks⟩ := s.beginComputation_units k
  obtain ⟨-, tp, td, -⟩ := s.compute_frame_samples k
  have hgate : ∀ i, (s.beginComputation k).pickups.get i = gate i := fun i => by
    rw [hpickups]
    show _ = if k.toNat % 48 = 0 then (s.pickups.get i).tick else s.pickups.get i
    split <;> simp
  have hrun := fun i => (s.beginComputation k).runSamples_pickups k i
  simp only [hgate, s.beginComputation_inputOf k, (s.beginComputation_frame k).2.2.2.1] at hrun
  have hpeak : ∀ f, ((s.beginComputation k).runSamples k).taps.peaks.get f = peak f := fun f => by
    rw [State.runSamples_peaks, hpeaks]
    rfl
  refine ⟨fun i => ?_, fun i => ?_, fun h => s.compute_between_units k h, s.compute_events_frame k, fun e he => ?_,
    fun h => ?_⟩
  · show (s.compute k).pickups.get i = _
    rw [tp, (hrun i).1]
  · show (s.compute k).delay.get i = _
    rw [td, (hrun i).2]
  · simp only [List.mem_cons, List.not_mem_nil, or_false, not_or] at he
    obtain ⟨h1, h2, h3, h4, h5, h6, h7, h8, h9⟩ := he
    show (s.compute k).events.latched e = _
    rw [s.compute_latched_other k (by simp [*])]
    simp [Ne.symm h9]
  · obtain ⟨hl, hs, he, hz⟩ := s.compute_tick_levels k h
    refine ⟨fun g => ?_, fun f => ?_, ?_, hs, he, s.compute_tick_guards k h _ rfl peak hpeak, hz⟩
    · show (s.compute k).level.groups.get g = _
      rw [hl]
      simp [Level.tick]
    · show (s.compute k).level.feeds.get f = _
      rw [hl]
      simp [Level.tick, Feed.tick_eq]
    · show (s.compute k).level.hold = _
      rw [hl]
      rfl

end Sys2Proof.Machine
end

section
/-!
PROOFS. What a frame period brings before anything is written (R13, R18, R156, R190): the loss taken, the computation,
the generator's word. Of the Chain Interface it looks at the part's address alone.
-/

namespace Sys2Proof.Machine

variable (k : FrameNo) (s : State)

/-! ## The lane in a computation -/

/-- R108, R110: the replies that the running check's next step makes READY. -/
def State.checkReplies (s : State) : List Reply :=
  match s.check with
  | none => []
  | some c =>
    match examine s.cores (s.scenes.get c.scene) c.next with
    | .failed i r => c.replyTo.toList.map fun t =>
        t.reply .checkFailed (octet c.scene.val :: octets2 i ++ [octet (reasonCode r)])
    | .passed => c.replyTo.toList.map fun t =>
        t.reply .checkPassed (octet c.scene.val :: octets2 (s.scenes.get c.scene).taps.length)
    | .goesOn _ => []

theorem State.pushReply?_lane (t : Option Ticket) (st : Status) (data : List Byte) :
    (s.pushReply? t st data).lane =
      { s.lane with ready := s.lane.ready ++ t.toList.map fun k => k.reply st data } := by
  cases t with
  | none => simp [State.pushReply?]
  | some t => rfl

theorem State.advanceCheck_lane :
    s.advanceCheck.lane = { s.lane with ready := s.lane.ready ++ s.checkReplies } := by
  unfold State.advanceCheck State.checkReplies
  cases hc : s.check with
  | none => simp
  | some c =>
    dsimp only
    cases he : examine s.cores (s.scenes.get c.scene) c.next with
    | failed i r => exact State.pushReply?_lane _ _ _ _
    | passed => exact State.pushReply?_lane _ _ _ _
    | goesOn n => simp

/-- R108: a check's step looks at the check, the cores and the scenes alone. -/
theorem State.checkReplies_congr {s t : State} (hc : t.check = s.check) (hr : t.cores = s.cores)
    (hs : t.scenes = s.scenes) : t.checkReplies = s.checkReplies := by
  unfold State.checkReplies
  rw [hc, hr, hs]

/-- R108, R163: a computation only makes the check's replies READY. -/
theorem State.compute_lane : (s.compute k).lane =
    { s.lane with ready := s.lane.ready ++ (s.beginComputation k).checkReplies } := by
  have samples : ((s.beginComputation k).runSamples k).lane =
      { s.lane with ready := s.lane.ready ++ (s.beginComputation k).checkReplies } := by
    simp only [State.runSamples, State.recordPeaks_lane, State.runCores_frame, State.advanceCheck_lane]
    rw [State.checkReplies_congr (s := s.beginComputation k) (by simp) (by simp) (by simp)]
    simp
  by_cases h : k.toNat % 48 = 0
  · rw [s.compute_tick k h]
    simpa using samples
  · rw [s.compute_between k h]
    exact samples

/-- R108: computations of states whose blocks agree make the same replies READY. -/
theorem State.checkReplies_of_seen {s t : State} (h : s.seen = t.seen) (k : FrameNo) :
    (s.beginComputation k).checkReplies = (t.beginComputation k).checkReplies := by
  have hb : (s.beginComputation k).seen = (t.beginComputation k).seen := by
    rw [← State.seen_beginComputation, h, State.seen_beginComputation]
  exact (congrArg State.checkReplies hb : _)

/-! ## Another chain record under the same state -/

/-- A state is its blocks and pins and the five records that a computation does not look at. -/
theorem State.ext_seen {s t : State} (h : s.seen = t.seen) (hc : s.chain = t.chain) (hl : s.lane = t.lane)
    (he : s.events = t.events) (hp : s.pattern = t.pattern) (hq : s.pending = t.pending) : s = t := by
  have whole : ∀ u : State, u = { u.seen with
      chain := u.chain, lane := u.lane, events := u.events, pattern := u.pattern, pending := u.pending } :=
    fun _ => rfl
  rw [whole s, whole t, h, hc, hl, he, hp, hq]

/-- The state with another chain record. -/
def State.withChain (c : Chain) (s : State) : State := { s with chain := c }

@[simp] theorem State.withChain_chain (c : Chain) : (s.withChain c).chain = c := rfl
@[simp] theorem State.withChain_self : s.withChain s.chain = s := rfl
@[simp] theorem State.withChain_withChain (c d : Chain) : (s.withChain c).withChain d = s.withChain d := rfl

@[simp] theorem State.withChain_frame (c : Chain) :
    (s.withChain c).pins = s.pins ∧ (s.withChain c).level = s.level ∧ (s.withChain c).pickups = s.pickups ∧
    (s.withChain c).buffer = s.buffer ∧ (s.withChain c).delay = s.delay ∧ (s.withChain c).taps = s.taps ∧
    (s.withChain c).cores = s.cores ∧ (s.withChain c).scenes = s.scenes ∧ (s.withChain c).check = s.check ∧
    (s.withChain c).cue = s.cue ∧ (s.withChain c).guards = s.guards ∧ (s.withChain c).hold = s.hold ∧
    (s.withChain c).lane = s.lane ∧ (s.withChain c).events = s.events ∧ (s.withChain c).pattern = s.pattern ∧
    (s.withChain c).pending = s.pending :=
  ⟨rfl, rfl, rfl, rfl, rfl, rfl, rfl, rfl, rfl, rfl, rfl, rfl, rfl, rfl, rfl, rfl⟩

/-- R18: a computation does not look at the chain. -/
theorem State.compute_withChain (c : Chain) : (s.withChain c).compute k = (s.compute k).withChain c := by
  have hs : (s.withChain c).seen = s.seen := rfl
  refine State.ext_seen ?_ (by simp) ?_ ?_ (by simp) (by simp)
  · rw [← State.seen_compute, hs, State.seen_compute]
    rfl
  · rw [State.compute_lane, State.checkReplies_of_seen hs]
    simp [State.compute_lane]
  · exact State.compute_events hs rfl k

/-- R156: a loss looks at the part's address alone. -/
theorem State.takeLoss_withChain {c : Chain} (h : c.address = s.chain.address) :
    (s.withChain c).takeLoss k = (s.takeLoss k).withChain c := by
  unfold State.takeLoss State.loseSegment
  simp only [State.withChain_frame]
  split
  · rfl
  · have ha : ((s.withChain c).setRecord k false).chain.address = (s.setRecord k false).chain.address := h
    have hl : ((s.withChain c).setRecord k false).lane = (s.setRecord k false).lane := rfl
    rw [ha, hl]
    split
    · rfl
    · split <;> rfl

/-! ## What a frame period brings -/

/-- R18, R156: the loss of frame `n - 8` taken and, in RUNNING, computation `n - 8` run. -/
def State.computed (n : FrameNo) (s : State) : State :=
  if s.hold.condition = .running then (s.takeLoss (n - 8)).compute (n - 8) else s.takeLoss (n - 8)

variable (n : FrameNo)

theorem State.countFrame_eq : s.countFrame n = (s.takeLoss (n - 8)).withChain (s.chain.countHandled n) :=
  s.takeLoss_withChain (n - 8) rfl

variable {s}

/-- R13, R18, R156, R190: the frame period, its four parts apart. -/
theorem State.paceFrame_eq (hr : s.pins.rstLow = false) :
    s.paceFrame n = (s.computed n).generate.withChain (s.chain.countHandled n) := by
  have hc : (s.countFrame n).computes = (s.hold.condition == .running) := by simp [State.computes, hr]
  unfold State.paceFrame State.computed
  simp only [hc, beq_iff_eq]
  rw [State.countFrame_eq]
  split
  · rw [State.compute_withChain]
    rfl
  · rfl

/-- R32, R152: its feed values. -/
theorem State.paceOuts_eq (hr : s.pins.rstLow = false) : s.paceOuts n =
    if s.hold.condition = .running then s.computeOuts (n - 8) else Bank.fill 32 0 := by
  have hc : (s.countFrame n).computes = (s.hold.condition == .running) := by simp [State.computes, hr]
  have hs : (s.countFrame n).seen = s.seen := by
    simp [State.seen]
  unfold State.paceOuts
  simp only [hc, beq_iff_eq, State.computeOuts_of_seen hs]

/-! ## What it leaves -/

theorem State.takeLoss_seen (s : State) : (s.takeLoss k).seen = s.seen := by
  simp [State.seen]

@[simp] theorem State.computed_frame (s : State) : (s.computed n).pins = s.pins ∧ (s.computed n).chain = s.chain ∧
    (s.computed n).buffer = s.buffer ∧ (s.computed n).pattern = s.pattern ∧ (s.computed n).pending = s.pending := by
  unfold State.computed
  split <;> simp

@[simp] theorem State.computed_condition (s : State) : (s.computed n).hold.condition = s.hold.condition := by
  unfold State.computed
  split <;> simp

theorem State.SameBlocks.trans {s t u : State} (h : s.SameBlocks t) (k : t.SameBlocks u) : s.SameBlocks u := by
  obtain ⟨h1, h2, h3, h4, h5, h6, h7, h8, h9, h10⟩ := h
  obtain ⟨k1, k2, k3, k4, k5, k6, k7, k8, k9, k10⟩ := k
  exact ⟨k1.trans h1, k2.trans h2, k3.trans h3, k4.trans h4, k5.trans h5, k6.trans h6, k7.trans h7, k8.trans h8,
    k9.trans h9, k10.trans h10⟩

/-- R18, R152: the blocks stand as the computation leaves them in whatever keeps them afterwards. -/
theorem State.pacedTo_of_sameBlocks {s u t : State} (hs : s.seen = u.seen) (h : (u.computed n).SameBlocks t) :
    s.PacedTo n t := by
  have hl : s.seen = (u.takeLoss (n - 8)).seen := hs.trans (u.takeLoss_seen (n - 8)).symm
  have hh : s.hold = u.hold := (congrArg State.hold hs : _)
  refine ⟨fun hc => (State.compute_sameBlocks hl (n - 8)).trans ?_, fun hc => (State.sameBlocks_of_seen hl).trans ?_⟩
  · rwa [State.computed, if_pos (hh ▸ hc)] at h
  · rwa [State.computed, if_neg (hh ▸ hc)] at h

theorem State.computed_events (s : State) : (s.computed n).events = s.pacedEvents n := by
  unfold State.computed State.pacedEvents
  split <;> rfl

/-- R159: a loss counts its broken message, with LANE_BROKEN, and no other event. -/
theorem State.takeLoss_events (s : State) : (s.takeLoss k).events.badU = s.events.badU ∧
    ∀ e, e ≠ .laneBroken → (s.takeLoss k).events.latched e = s.events.latched e := by
  unfold State.takeLoss State.loseSegment
  split
  · exact ⟨rfl, fun _ _ => rfl⟩
  · split
    · exact ⟨rfl, fun _ _ => rfl⟩
    · split
      · exact ⟨rfl, fun _ _ => rfl⟩
      · refine ⟨rfl, fun e he => ?_⟩
        simp [State.breakMessage, Events.latched_set, Ne.symm he]
        rfl

/-- R7, R8: a frame's loss and its computation move neither the bad frames counted nor BAD_FRAME and FRAME_JUMP. -/
theorem State.pacedEvents_stands (s : State) : (s.pacedEvents n).badU = s.events.badU ∧
    ∀ e ∈ [Event.badFrame, .frameJump], (s.pacedEvents n).latched e = s.events.latched e := by
  obtain ⟨hb, hl⟩ := s.takeLoss_events (n - 8)
  have loss : ∀ e ∈ [Event.badFrame, .frameJump], (s.takeLoss (n - 8)).events.latched e = s.events.latched e :=
    fun e he => hl e (by rintro rfl; simp at he)
  unfold State.pacedEvents
  dsimp only
  split
  · refine ⟨by rw [State.compute_events_frame]; exact hb, fun e he => ?_⟩
    rw [State.compute_latched_other, loss e he]
    · have : e ≠ .holdEntered := by rintro rfl; simp at he
      simp [this.symm]
    · intro h
      revert h he
      cases e <;> simp
  · exact ⟨hb, loss⟩

/-- R156, R159: a loss breaks a message and marks its frame; queue and replies stand. -/
theorem State.takeLoss_lane (s : State) : (s.takeLoss k).lane = { s.lane with
      contexts := (s.takeLoss k).lane.contexts
      record := (s.takeLoss k).lane.record } ∧
    ∀ i, i ≠ turnOf k → (s.takeLoss k).lane.record.get i = s.lane.record.get i := by
  unfold State.takeLoss State.loseSegment State.breakMessage State.latch State.setRecord
  split
  · exact ⟨rfl, fun _ _ => rfl⟩
  · split
    · exact ⟨rfl, fun i h => Bank.get_set_of_ne _ h _⟩
    · split
      · exact ⟨rfl, fun i h => Bank.get_set_of_ne _ h _⟩
      · exact ⟨rfl, fun i h => Bank.get_set_of_ne _ h _⟩

/-- R156: what a loss does to the lane depends on the lane and the address alone. -/
theorem State.takeLoss_lane_congr {s t : State} (hl : t.lane = s.lane) (ha : t.chain.address = s.chain.address) :
    (t.takeLoss k).lane = (s.takeLoss k).lane := by
  have hr : (t.setRecord k false).lane = (s.setRecord k false).lane := by rw [State.setRecord, State.setRecord, hl]
  have hb : (t.setRecord k false).chain.address = (s.setRecord k false).chain.address := ha
  unfold State.takeLoss State.loseSegment
  rw [hl, hr, hb]
  split
  · exact hl
  · split
    · exact hr
    · split
      · exact hr
      · simp only [State.breakMessage, State.latch, hr]

/-- R18, R156: neither looks at the rest of the chain. -/
theorem State.computed_withChain (s : State) {c : Chain} (h : c.address = s.chain.address) :
    (s.withChain c).computed n = (s.computed n).withChain c := by
  unfold State.computed
  simp only [State.withChain_frame, s.takeLoss_withChain (n - 8) h, State.compute_withChain]
  split <;> rfl

/-- R108, R163: READY replies are added by the check alone. -/
theorem State.computed_lane (s : State) : (s.computed n).lane = { (s.takeLoss (n - 8)).lane with
    ready := s.lane.ready ++
      if s.hold.condition = .running then (s.beginComputation (n - 8)).checkReplies else [] } := by
  obtain ⟨hl, -⟩ := s.takeLoss_lane (n - 8)
  have hready : (s.takeLoss (n - 8)).lane.ready = s.lane.ready := by rw [hl]
  unfold State.computed
  split
  · rw [State.compute_lane, State.checkReplies_of_seen (s.takeLoss_seen (n - 8)), hready]
  · rw [List.append_nil, ← hready]

theorem State.computed_sent (s : State) : (s.computed n).lane.sent = s.lane.sent := by
  obtain ⟨hl, -⟩ := s.takeLoss_lane (n - 8)
  rw [State.computed_lane, hl]

/-- R156: the read record entry of a frame is not that of the frame eight before it. -/
theorem turnOf_sub_eight : turnOf n ≠ turnOf (n - 8) := by
  intro h
  have := congrArg Fin.val h
  simp only [turnOf] at this
  bv_omega

/-- R156: the loss of frame `n - 8` says nothing of frame `n`. -/
theorem State.takeLoss_record (s : State) :
    (s.takeLoss (n - 8)).lane.record.get (turnOf n) = s.lane.record.get (turnOf n) :=
  (s.takeLoss_lane (n - 8)).2 _ (turnOf_sub_eight n)

/-! ## The slots of feeds and pickups -/

@[simp] theorem Pickup.tick_slot (p : Pickup) : p.tick.slot = p.slot := by
  unfold Pickup.tick
  split
  · rw [Pickup.moveLevel_frame, Pickup.moveGate_frame]
    rfl
  · rfl

/-- R30, R42: a computation moves neither a feed's slot nor a pickup's. -/
theorem State.computed_slots (s : State) :
    (∀ f, ((s.computed n).level.feeds.get f).slot = (s.level.feeds.get f).slot) ∧
    ∀ i, ((s.computed n).pickups.get i).slot = (s.pickups.get i).slot := by
  have compute : ∀ t : State, ∀ k, (∀ f, ((t.compute k).level.feeds.get f).slot = (t.level.feeds.get f).slot) ∧
      ∀ i, ((t.compute k).pickups.get i).slot = (t.pickups.get i).slot := by
    intro t k
    obtain ⟨hl, hp, -⟩ := t.beginComputation_units k
    obtain ⟨tl, tp, -⟩ := t.compute_frame_samples k
    constructor
    · intro f
      rw [tl, hl]
      split
      · simp [Level.tick, Feed.tick]
      · rfl
    · intro i
      rw [tp, ((t.beginComputation k).runSamples_pickups k i).1, hp]
      split
      · rw [Bank.get_map]
        exact Pickup.tick_slot _
      · rfl
  unfold State.computed
  split
  · simpa using compute (s.takeLoss (n - 8)) (n - 8)
  · simp

end Sys2Proof.Machine
end

section
/-!
PROOFS. What a part writes into an outbound frame (R9, R30, R163, R165, R166, R169, R190): slots, own roll-call octet
and, in an own turn, its reply's next segment; and what the clash tests leave.
-/

namespace Sys2Proof.Machine

/-! ## Slots -/

/-- R9: one feed's value written into the slot it holds. -/
def writeSlot (feeds : Bank 32 Feed) (outs : Bank 32 Sample) (acc : Bank 128 Sample) (f : Fin 32) : Bank 128 Sample :=
  match (feeds.get f).slot with
  | some x => acc.set x (outs.get f)
  | none => acc

theorem writeSlots_eq (feeds : Bank 32 Feed) (outs : Bank 32 Sample) (slots : Bank 128 Sample) :
    writeSlots feeds outs slots = (List.finRange 32).foldl (writeSlot feeds outs) slots := rfl

variable {feeds : Bank 32 Feed} {outs : Bank 32 Sample} {slots : Bank 128 Sample} {x : Fin 128}

theorem writeSlot_of_ne {f : Fin 32} (h : (feeds.get f).slot ≠ some x) :
    (writeSlot feeds outs slots f).get x = slots.get x := by
  unfold writeSlot
  split
  · rename_i y hy
    exact Bank.get_set_of_ne _ (fun e => h (by rw [hy, e])) _
  · rfl

theorem writeSlot_of_eq {f : Fin 32} (h : (feeds.get f).slot = some x) :
    (writeSlot feeds outs slots f).get x = outs.get f := by
  simp [writeSlot, h]

/-- R9: slots that no feed holds stand. -/
theorem writeSlots_of_ne (h : ∀ f, (feeds.get f).slot ≠ some x) :
    (writeSlots feeds outs slots).get x = slots.get x := by
  rw [writeSlots_eq]
  generalize List.finRange 32 = l
  induction l generalizing slots with
  | nil => rfl
  | cons f l ih => rw [List.foldl_cons, ih, writeSlot_of_ne (h f)]

/-- R9, R178: the slot that one feed alone holds carries its value. -/
theorem writeSlots_of_eq {f : Fin 32} (hu : ∀ g, (feeds.get g).slot = some x → g = f)
    (h : (feeds.get f).slot = some x) : (writeSlots feeds outs slots).get x = outs.get f := by
  have written : ∀ (l : List (Fin 32)) (slots : Bank 128 Sample), f ∈ l ∨ slots.get x = outs.get f →
      (l.foldl (writeSlot feeds outs) slots).get x = outs.get f := by
    intro l
    induction l with
    | nil => simp
    | cons g l ih =>
      intro slots hl
      rw [List.foldl_cons]
      apply ih
      by_cases hg : g = f
      · exact .inr (by rw [hg]; exact writeSlot_of_eq h)
      · rw [writeSlot_of_ne fun e => hg (hu g e)]
        rcases hl with hl | hl
        · exact .inl ((List.mem_cons.1 hl).resolve_left (Ne.symm hg))
        · exact .inr hl
  exact written _ _ (.inl (List.mem_finRange f))

/-- R190: the generator's slot carries its word, and the others stand. -/
theorem writePattern_get (p : Pattern) (w : Sample) :
    (writePattern p w slots).get x = if (p.genOn && p.genSlot == x) = true then w else slots.get x := by
  unfold writePattern
  cases p.genOn
  · rfl
  · by_cases h : p.genSlot = x
    · simp [h]
    · simp [h, Bank.get_set_of_ne slots (Ne.symm h) w]

/-! ## The roll-call octet -/

/-- R169: its two highest bits. -/
theorem octet_high_bits (lead : Bool) {r : Nat} (h : r < 64) :
    (octet (128 + (if lead then 64 else 0) + r)).getLsbD 7 = true ∧
    (octet (128 + (if lead then 64 else 0) + r)).getLsbD 6 = lead := by
  have all : ∀ (lead : Bool) (r : Fin 64), (octet (128 + (if lead then 64 else 0) + r.val)).getLsbD 7 = true ∧
      (octet (128 + (if lead then 64 else 0) + r.val)).getLsbD 6 = lead := by decide
  exact all lead ⟨r, h⟩

/-- R166, R169: the part's octet carries PRESENT, and LEADER at the leader alone. -/
theorem State.rollCall_high_bits (s : State) :
    s.rollCall.getLsbD 7 = true ∧ s.rollCall.getLsbD 6 = s.chain.leader := by
  have low : ∃ r, r < 64 ∧ s.rollCall = octet (128 + (if s.chain.leader then 64 else 0) + r) := by
    refine ⟨(if s.events.attention then 32 else 0) + (if s.lane.backpressure then 16 else 0) +
      (if s.hold.state = .running then 0 else 8) + (if s.cue.state.fades then 4 else 0) +
      (if s.hold.condition = .quiet then 2 else 0) + (if s.guardFlag then 1 else 0), ?_, ?_⟩
    · split_ifs <;> decide
    · unfold State.rollCall
      congr 1
      omega
  obtain ⟨r, hr, e⟩ := low
  rw [e]
  exact octet_high_bits _ hr

/-! ## The clash tests -/

variable (f : Frame) (s : State)

theorem State.ownTurn_iff (n : FrameNo) : s.ownTurn n = true ↔ turnOf n = s.chain.address := by
  simp [State.ownTurn]

theorem markOf_eq_empty_iff (o : Byte) : markOf o = .empty ↔ o = 0 := by
  unfold markOf
  split_ifs <;> simp_all

/-- R165: the two clash tests. -/
theorem State.clashes_iff : s.clashes f = true ↔ (f.roll.get s.chain.address).getLsbD 7 = true ∨
    turnOf f.number = s.chain.address ∧ f.segment.mark ≠ 0 := by
  simp only [State.clashes, State.segmentClash, State.rollClash, Bool.or_eq_true, Bool.and_eq_true, State.ownTurn_iff,
    bne_iff_ne, ne_eq, markOf_eq_empty_iff]
  exact or_comm

/-- R165: a reply abandoned is not seen in the part's octet. -/
theorem State.abandonReply_rollCall (n : FrameNo) : (s.abandonReply n).rollCall = s.rollCall := by
  unfold State.abandonReply
  split <;> rfl

/-! ## The frame written -/

/-- R9, R165, R166: the own octet is written unless another node has written it; the other octets stand. -/
theorem State.writtenFrame_roll (outs : Bank 32 Sample) (w : Sample) :
    (∀ a, a ≠ s.chain.address → (s.writtenFrame f outs w).roll.get a = f.roll.get a) ∧
    ((f.roll.get s.chain.address).getLsbD 7 = true →
      (s.writtenFrame f outs w).roll.get s.chain.address = f.roll.get s.chain.address) ∧
    ((f.roll.get s.chain.address).getLsbD 7 = false →
      (s.clashes f = true →
        (s.writtenFrame f outs w).roll.get s.chain.address = (s.latch .addressClash).rollCall) ∧
      (s.clashes f = false → (s.writtenFrame f outs w).roll.get s.chain.address = s.rollCall)) := by
  have hw : (s.writtenFrame f outs w).roll =
      if (f.roll.get s.chain.address).getLsbD 7 then f.roll else f.roll.set s.chain.address (s.noteClash f).rollCall :=
    rfl
  rw [hw]
  refine ⟨fun a ha => ?_, fun h => by rw [if_pos h], fun h => ⟨fun hc => ?_, fun hc => ?_⟩⟩
  · split
    · rfl
    · exact Bank.get_set_of_ne _ ha _
  · rw [if_neg (by rw [h]; exact Bool.false_ne_true), Bank.get_set_self, State.noteClash, if_pos hc, State.abandonReply_rollCall]
  · rw [if_neg (by rw [h]; exact Bool.false_ne_true), Bank.get_set_self, State.noteClash, if_neg (by simp [hc])]

/-- R9, R30, R178, R190: the slots of the frame written. -/
theorem State.writtenFrame_slots (outs : Bank 32 Sample) (w : Sample) :
    (∀ x, (∀ i, (s.level.feeds.get i).slot ≠ some x) → (s.pattern.genOn && s.pattern.genSlot == x) = false →
      (s.writtenFrame f outs w).slots.get x = f.slots.get x) ∧
    (s.pattern.genOn = true → (s.writtenFrame f outs w).slots.get s.pattern.genSlot = w) ∧
    (s.SlotLaw → ∀ i x, (s.level.feeds.get i).slot = some x → (s.writtenFrame f outs w).slots.get x = outs.get i) := by
  have hw : (s.writtenFrame f outs w).slots =
      writePattern s.pattern w (writeSlots s.level.feeds outs f.slots) := rfl
  simp only [hw, writePattern_get]
  refine ⟨fun x hx hg => ?_, fun hg => by simp [hg], fun ⟨hu, hg⟩ i x hi => ?_⟩
  · rw [if_neg (by simp [hg]), writeSlots_of_ne hx]
  · have other : ¬(s.pattern.genOn && s.pattern.genSlot == x) = true := by
      simp only [Bool.and_eq_true, beq_iff_eq, not_and]
      rintro hn rfl
      exact hg hn i hi
    rw [if_neg other]
    refine writeSlots_of_eq (fun g e => ?_) hi
    exact (hu g i (e.trans hi.symm)).resolve_right (by simp [e])

/-! ## The state after the writes -/

/-- R165: another node has written: its segment stands, and a reply in transmission or about to start is abandoned. -/
theorem State.afterWrites_of_clash (h : s.clashes f = true) :
    (s.afterWrites f).events = s.events.set .addressClash ∧ s.segmentWritten f = f.segment ∧
    (turnOf f.number = s.chain.address ∨ 0 < s.lane.sent →
      (s.afterWrites f).lane = { s.lane with ready := s.lane.ready.drop 1, sent := 0 }) ∧
    (turnOf f.number ≠ s.chain.address → s.lane.sent = 0 → (s.afterWrites f).lane = s.lane) := by
  have hn : s.noteClash f = (s.latch .addressClash).abandonReply f.number := if_pos h
  have ha : s.afterWrites f = (s.latch .addressClash).abandonReply f.number := (if_pos h).trans hn
  have hs : (s.latch .addressClash).ownTurn f.number = s.ownTurn f.number := rfl
  refine ⟨by rw [ha]; simp, by simp [State.segmentWritten, h], fun ho => ?_, fun ho hz => ?_⟩
  · rw [ha, State.abandonReply, if_pos]
    · rfl
    · rw [hs, State.ownTurn_iff]
      exact ho.symm
  · rw [ha, State.abandonReply, if_neg]
    · rfl
    · rw [hs, State.ownTurn_iff]
      simp [ho, hz]

/-- R9: outside its own turn, and without a clash, a part writes no segment. -/
theorem State.afterWrites_of_other (h : s.clashes f = false) (ho : turnOf f.number ≠ s.chain.address) :
    s.afterWrites f = s ∧ s.segmentWritten f = f.segment := by
  have hown : s.ownTurn f.number = false := by simpa [← State.ownTurn_iff] using ho
  simp [State.afterWrites, State.segmentWritten, h, hown]

/-- R163: an own turn without a clash sends the next segment of the oldest READY reply. -/
theorem State.afterWrites_of_own (h : s.clashes f = false) (ho : turnOf f.number = s.chain.address) :
    (s.afterWrites f).events = s.events ∧
    State.OwnTurnSends s.lane.ready s.lane.sent f.segment (s.segmentWritten f) (s.afterWrites f) := by
  have hown : s.ownTurn f.number = true := (s.ownTurn_iff _).2 ho
  have ha : s.afterWrites f = s.advanceReply := by simp [State.afterWrites, h, hown]
  have hw : s.segmentWritten f = match s.lane.ready with
      | r :: _ => r.segment s.lane.sent
      | [] => f.segment := if_pos (by simp [h, hown])
  rw [ha, hw]
  rcases s.advanceReply_cases with ⟨hr, e⟩ | ⟨r, rest, hr, hl, e⟩ | ⟨r, rest, hr, hl, e⟩ <;> rw [e, hr]
  · exact ⟨rfl, fun _ => ⟨rfl, hr, rfl⟩, nofun⟩
  · refine ⟨rfl, nofun, ?_⟩
    rintro r rest ⟨⟩
    exact ⟨rfl, fun _ => ⟨by simp [State.dropReply, hr], rfl⟩, fun hn => absurd hl (by omega)⟩
  · refine ⟨rfl, nofun, ?_⟩
    rintro r rest ⟨⟩
    exact ⟨rfl, fun hn => absurd hl (by omega), fun _ => ⟨hr, rfl⟩⟩

/-- R163, R165: the writes move the replies and ADDRESS_CLASH alone. -/
theorem State.afterWrites_lane : (s.afterWrites f).lane = { s.lane with
    ready := (s.afterWrites f).lane.ready
    sent := (s.afterWrites f).lane.sent } := by
  unfold State.afterWrites State.noteClash State.abandonReply State.advanceReply State.dropReply
  split_ifs
  · rfl
  · rfl
  · split
    · rfl
    · split <;> rfl
  · rfl

theorem State.afterWrites_events : (s.afterWrites f).events =
    if s.clashes f then s.events.set .addressClash else s.events := by
  cases hc : s.clashes f with
  | true => exact (s.afterWrites_of_clash f hc).1
  | false =>
    by_cases ho : turnOf f.number = s.chain.address
    · exact (s.afterWrites_of_own f hc ho).1
    · rw [(s.afterWrites_of_other f hc ho).1]
      simp

end Sys2Proof.Machine
end

section
/-!
PROOFS. The reading of a return frame (R10, R40, R41, R156 to R160, R191): what it looks at, and what it leaves.
-/

namespace Sys2Proof.Machine

/-! ## What the lane reads by -/

/-- R156 to R161: `t` reads lane segments as `s` does: at the same address, with the same contexts, read record and
command queue, and where `P` holds with the same events. Replies may differ. -/
def State.HearsAs (P : Prop) (s t : State) : Prop :=
  s.chain.address = t.chain.address ∧
  t.lane = { s.lane with ready := t.lane.ready, sent := t.lane.sent } ∧
  (P → s.events = t.events)

section
variable {P : Prop} {s t : State}

theorem State.HearsAs.record (h : s.HearsAs P t) : t.lane.record = s.lane.record := by
  obtain ⟨-, hl, -⟩ := h
  rw [hl]

theorem State.HearsAs.contexts (h : s.HearsAs P t) : t.lane.contexts = s.lane.contexts := by
  obtain ⟨-, hl, -⟩ := h
  rw [hl]

theorem State.HearsAs.setContext (h : s.HearsAs P t) (i : Fin 16) (a : Option Assembly) :
    (s.setContext i a).HearsAs P (t.setContext i a) := by
  obtain ⟨ha, hl, he⟩ := h
  refine ⟨ha, ?_, he⟩
  show { t.lane with contexts := t.lane.contexts.set i a } = _
  rw [hl]
  rfl

theorem State.HearsAs.setRecord (h : s.HearsAs P t) (n : FrameNo) (b : Bool) :
    (s.setRecord n b).HearsAs P (t.setRecord n b) := by
  obtain ⟨ha, hl, he⟩ := h
  refine ⟨ha, ?_, he⟩
  show { t.lane with record := t.lane.record.set (turnOf n) (some ⟨n, b⟩) } = _
  rw [hl]
  rfl

/-- Events counted in both alike. -/
theorem State.HearsAs.counted (h : s.HearsAs P t) (e : Event) (c : Events → Events) :
    (State.latch e { s with events := c s.events }).HearsAs P (State.latch e { t with events := c t.events }) := by
  obtain ⟨ha, hl, he⟩ := h
  exact ⟨ha, hl, fun p => by rw [State.latch, State.latch, he p]⟩

theorem State.HearsAs.breakMessage (h : s.HearsAs P t) (i : Fin 16) :
    (s.breakMessage i).HearsAs P (t.breakMessage i) :=
  (h.setContext i none).counted .laneBroken fun ev => { ev with broken := countUp top32 ev.broken 1 }

theorem State.HearsAs.offer (h : s.HearsAs P t) (i : Fin 16) (kind tag : Byte) (params : List Byte) (b : Bool) :
    (s.offer i kind tag params b).HearsAs P (t.offer i kind tag params b) := by
  obtain ⟨ha, hl, he⟩ := h
  have hq : t.lane.queue = s.lane.queue := by rw [hl]
  unfold State.offer
  rw [hq]
  split
  · refine ⟨ha, ?_, he⟩
    dsimp only
    rw [hl]
  · have lost : State.HearsAs P { s with lane := { s.lane with lossPending := true } }
        { t with lane := { t.lane with lossPending := true } } := by
      refine ⟨ha, ?_, he⟩
      dsimp only
      rw [hl]
    exact lost.counted .queueOverrun fun ev => { ev with dropped := countUp top16 ev.dropped 1 }

theorem State.HearsAs.completeMessage (h : s.HearsAs P t) (i : Fin 16) (o : List Byte) (n d : Nat) (b : Bool) :
    (s.completeMessage i o n d b).HearsAs P (t.completeMessage i o n d b) := by
  unfold State.completeMessage
  split
  · split
    · exact h.offer _ _ _ _ _
    · exact h
  · exact h.counted .messageBad fun ev => { ev with badMessages := countUp top32 ev.badMessages 1 }

theorem State.HearsAs.idleTakes (h : s.HearsAs P t) (i : Fin 16) (f : FrameNo) (g : Segment) :
    (s.idleTakes i f g).HearsAs P (t.idleTakes i f g) := by
  have ha : ∀ dest, t.addressed dest = s.addressed dest := fun dest => by
    rw [State.addressed, State.addressed, h.1]
  unfold State.idleTakes
  simp only [ha]
  cases markOf g.mark
  case only =>
    dsimp only
    split
    · exact h.completeMessage _ _ _ _ _
    · exact h
  case first =>
    dsimp only
    split
    · split
      · exact h.breakMessage _
      · exact h.setContext _ _
    · exact h
  all_goals exact h

theorem State.HearsAs.assemblyTakes (h : s.HearsAs P t) (i : Fin 16) (a : Assembly) (f : FrameNo) (g : Segment) :
    (s.assemblyTakes i a f g).HearsAs P (t.assemblyTakes i a f g) := by
  have broken : ((s.breakMessage i).idleTakes i f g).HearsAs P ((t.breakMessage i).idleTakes i f g) :=
    (h.breakMessage i).idleTakes i f g
  unfold State.assemblyTakes
  split
  · exact broken
  · cases markOf g.mark
    case more =>
      dsimp only
      split
      · exact h.setContext _ _
      · exact broken
    case last => exact (h.setContext _ _).completeMessage _ _ _ _ _
    all_goals exact broken

/-- R156: a segment taken. -/
theorem State.HearsAs.takeSegment (h : s.HearsAs P t) (f : FrameNo) (g : Segment) :
    (s.takeSegment f g).HearsAs P (t.takeSegment f g) := by
  unfold State.takeSegment
  rw [← h.1, h.contexts]
  split
  · exact h
  · split
    · exact h.idleTakes _ _ _
    · exact h.assemblyTakes _ _ _ _

end

/-! ## What the taking of a segment keeps -/

section
variable (s : State)

@[simp] theorem State.offer_replies (i : Fin 16) (kind tag : Byte) (params : List Byte) (b : Bool) :
    (s.offer i kind tag params b).lane.record = s.lane.record ∧
    (s.offer i kind tag params b).lane.ready = s.lane.ready ∧
    (s.offer i kind tag params b).lane.sent = s.lane.sent := by
  unfold State.offer
  split <;> simp

@[simp] theorem State.completeMessage_replies (i : Fin 16) (o : List Byte) (n d : Nat) (b : Bool) :
    (s.completeMessage i o n d b).lane.record = s.lane.record ∧
    (s.completeMessage i o n d b).lane.ready = s.lane.ready ∧
    (s.completeMessage i o n d b).lane.sent = s.lane.sent := by
  rcases s.completeMessage_cases i o n d b with ⟨-, h⟩ | ⟨-, h⟩ | h <;> rw [h] <;> simp

@[simp] theorem State.idleTakes_replies (i : Fin 16) (f : FrameNo) (g : Segment) :
    (s.idleTakes i f g).lane.record = s.lane.record ∧ (s.idleTakes i f g).lane.ready = s.lane.ready ∧
    (s.idleTakes i f g).lane.sent = s.lane.sent := by
  unfold State.idleTakes
  cases markOf g.mark <;> dsimp only <;> (try split_ifs) <;>
    simp [State.breakMessage, State.setContext]

@[simp] theorem State.assemblyTakes_replies (i : Fin 16) (a : Assembly) (f : FrameNo) (g : Segment) :
    (s.assemblyTakes i a f g).lane.record = s.lane.record ∧ (s.assemblyTakes i a f g).lane.ready = s.lane.ready ∧
    (s.assemblyTakes i a f g).lane.sent = s.lane.sent := by
  unfold State.assemblyTakes
  split
  · simp [State.breakMessage]
  · cases markOf g.mark <;> dsimp only <;> (try split_ifs) <;> simp [State.breakMessage, State.setContext]

/-- R156, R163: the read record and the replies stand. -/
@[simp] theorem State.takeSegment_replies (f : FrameNo) (g : Segment) :
    (s.takeSegment f g).lane.record = s.lane.record ∧ (s.takeSegment f g).lane.ready = s.lane.ready ∧
    (s.takeSegment f g).lane.sent = s.lane.sent := by
  unfold State.takeSegment
  split
  · simp
  · split <;> simp

end

/-- R156: the lane that a segment read leaves depends on the lane and the address alone. -/
theorem State.readSegment_lane_congr {s t : State} (hl : t.lane = s.lane) (ha : t.chain.address = s.chain.address)
    (n : FrameNo) (g : Segment) :
    ((t.setRecord n true).takeSegment n g).lane = ((s.setRecord n true).takeSegment n g).lane := by
  have hears : s.HearsAs False t := ⟨ha.symm, by rw [hl], False.elim⟩
  obtain ⟨-, h, -⟩ := (hears.setRecord n true).takeSegment n g
  obtain ⟨-, tr, ts⟩ := (t.setRecord n true).takeSegment_replies n g
  obtain ⟨-, sr, ss⟩ := (s.setRecord n true).takeSegment_replies n g
  have hr := tr.trans ((congrArg Lane.ready hl).trans sr.symm)
  have hs := ts.trans ((congrArg Lane.sent hl).trans ss.symm)
  rw [h, hr, hs]

/-! ## Latches stand -/

section
variable {s : State} {e : Event} (h : s.events.latched e = true)
include h

theorem State.latched_latch (x : Event) : (s.latch x).events.latched e = true := by
  simp [Events.latched_set, h]

theorem State.breakMessage_latched (i : Fin 16) : (s.breakMessage i).events.latched e = true :=
  State.latched_latch (s := { s with
    lane := { s.lane with contexts := s.lane.contexts.set i none }
    events := { s.events with broken := countUp top32 s.events.broken 1 } }) h _

theorem State.completeMessage_latched (i : Fin 16) (o : List Byte) (n d : Nat) (b : Bool) :
    (s.completeMessage i o n d b).events.latched e = true := by
  have offered : ∀ kind tag params, (s.offer i kind tag params b).events.latched e = true := by
    intro kind tag params
    unfold State.offer
    split
    · exact h
    · exact State.latched_latch (s := { s with
        lane := { s.lane with lossPending := true }
        events := { s.events with dropped := countUp top16 s.events.dropped 1 } }) h _
  rcases s.completeMessage_cases i o n d b with ⟨-, k⟩ | ⟨-, k⟩ | k <;> rw [k]
  · exact offered _ _ _
  · exact h
  · exact State.latched_latch (s := { s with
      events := { s.events with badMessages := countUp top32 s.events.badMessages 1 } }) h _

theorem State.idleTakes_latched (i : Fin 16) (f : FrameNo) (g : Segment) :
    (s.idleTakes i f g).events.latched e = true := by
  unfold State.idleTakes
  cases markOf g.mark
  case only =>
    dsimp only
    split
    · exact State.completeMessage_latched h _ _ _ _ _
    · exact h
  case first =>
    dsimp only
    split
    · split
      · exact State.breakMessage_latched h _
      · exact h
    · exact h
  all_goals exact h

/-- R156: a segment taken clears no event. -/
theorem State.takeSegment_latched (f : FrameNo) (g : Segment) : (s.takeSegment f g).events.latched e = true := by
  have broken : ∀ i, ((s.breakMessage i).idleTakes i f g).events.latched e = true := fun i =>
    State.idleTakes_latched (State.breakMessage_latched h i) i f g
  unfold State.takeSegment
  split
  · exact h
  · split
    · exact State.idleTakes_latched h _ _ _
    · unfold State.assemblyTakes
      split
      · exact broken _
      · cases markOf g.mark
        case more =>
          dsimp only
          split
          · exact h
          · exact broken _
        case last => exact State.completeMessage_latched (s := s.setContext (turnOf f) none) h _ _ _ _ _
        all_goals exact broken _

theorem State.checkPattern_latched (f : Frame) : (s.checkPattern f).events.latched e = true := by
  have counted : ∀ (c : Bool) (u : State), u.events.latched e = true → ∀ x, (u.latchIf c x).events.latched e = true := by
    intro c u hu x
    cases c
    · exact hu
    · exact State.latched_latch hu x
  unfold State.checkPattern
  refine counted _ _ (counted _ _ ?_ _) _
  split <;> exact h

/-- R10: the reading of a return frame clears no event. -/
theorem State.readEvents_latched (f : Frame) : (s.readEvents f).latched e = true := by
  unfold State.readEvents
  split
  · exact State.checkPattern_latched h f
  · exact State.checkPattern_latched (State.takeSegment_latched (s := s.setRecord f.number true) h _ _) f

end

/-! ## The checker -/

/-- R190, R191: the generator's word moves nothing that the checker looks at. -/
theorem Pattern.generate_checker (p : Pattern) : p.generate.chkSlot = p.chkSlot ∧ p.generate.threshold = p.threshold ∧
    ∀ n w, p.generate.errs n w = p.errs n w ∧ p.generate.losesSync n w = p.losesSync n w ∧
      p.generate.predicted n = p.predicted n := by
  unfold Pattern.generate
  split <;> exact ⟨rfl, rfl, fun _ _ => ⟨rfl, rfl, rfl⟩⟩

/-- R191: the checker's events are those of the events and the checker it begins with. -/
theorem State.checkPattern_events {s t : State} (f : Frame) (he : s.events = t.events)
    (hp : t.pattern = s.pattern ∨ t.pattern = s.pattern.generate) :
    (t.checkPattern f).events = (s.checkPattern f).events := by
  have checker : t.pattern.chkSlot = s.pattern.chkSlot ∧ t.pattern.threshold = s.pattern.threshold ∧
      ∀ n w, t.pattern.errs n w = s.pattern.errs n w ∧ t.pattern.losesSync n w = s.pattern.losesSync n w ∧
        t.pattern.predicted n = s.pattern.predicted n := by
    rcases hp with hp | hp <;> rw [hp]
    · exact ⟨rfl, rfl, fun _ _ => ⟨rfl, rfl, rfl⟩⟩
    · exact s.pattern.generate_checker
  obtain ⟨hs, ht, hw⟩ := checker
  unfold State.checkPattern
  simp only [State.latchIf_events, hs, ht, (hw _ _).1, (hw _ _).2.1, he]
  split <;> simp [he, (hw _ (f.slots.get s.pattern.chkSlot)).2.2]

@[simp] theorem State.checkPattern_pattern (f : Frame) (s : State) :
    (s.checkPattern f).pattern = s.pattern.take f.number (f.slots.get s.pattern.chkSlot) := by
  simp [State.checkPattern]

/-! ## A return frame read -/

section
variable (f : Frame) (s : State)

/-- R40, R41: the buffer entry of a frame read in RUNNING. -/
theorem State.readReturn_buffer : (s.readReturn f).buffer =
    if s.hold.condition = .running then (s.fillBuffer f).buffer else s.buffer := by
  unfold State.readReturn
  dsimp only
  split <;> simp

theorem State.fillBuffer_get : ((s.fillBuffer f).buffer.get (turnOf f.number)).valid = true ∧
    ((s.fillBuffer f).buffer.get (turnOf f.number)).tag = f.number ∧
    (∀ i, ((s.fillBuffer f).buffer.get (turnOf f.number)).samples.get i =
      match (s.pickups.get i).slot with
      | some x => f.slots.get x
      | none => 0) ∧
    ∀ i, i ≠ turnOf f.number → (s.fillBuffer f).buffer.get i = s.buffer.get i := by
  simp only [State.fillBuffer, Bank.get_set_self, true_and]
  exact ⟨fun i => Bank.get_map _ _ i, fun i h => Bank.get_set_of_ne _ h _⟩

@[simp] theorem State.readReturn_pattern :
    (s.readReturn f).pattern = s.pattern.take f.number (f.slots.get s.pattern.chkSlot) := by
  unfold State.readReturn
  dsimp only
  split <;> simp [State.fillBuffer]

/-- R156: the segment of a return frame is taken unless its loss was taken before. -/
theorem State.readReturn_lane : (s.readReturn f).lane =
    if s.lane.record.get (turnOf f.number) = some ⟨f.number, false⟩ then s.lane
    else ((s.setRecord f.number true).takeSegment f.number f.segment).lane := by
  have filled : ∀ t : State, t.lane = s.lane → t.chain = s.chain → (t.readSegment f.number f.segment).lane =
      if s.lane.record.get (turnOf f.number) = some ⟨f.number, false⟩ then s.lane
      else ((s.setRecord f.number true).takeSegment f.number f.segment).lane := by
    intro t hl hc
    unfold State.readSegment
    rw [hl]
    split
    · exact hl
    · exact State.readSegment_lane_congr hl (by rw [hc]) _ _
  unfold State.readReturn
  dsimp only
  rw [(State.checkPattern_frame _ _).2.2.2.2.2.2.2.2.2.2.2.2.2.1]
  split
  · exact filled _ rfl rfl
  · exact filled _ rfl rfl

/-- R10, R156, R191: the events of the reading depend on the address, the lane, the events and the checker. -/
theorem State.readReturn_events {s t : State} (h : t.HearsAs True s)
    (hp : s.pattern = t.pattern ∨ s.pattern = t.pattern.generate) : (s.readReturn f).events = t.readEvents f := by
  have filled : ∀ u : State, t.HearsAs True u → u.pattern = s.pattern →
      ((u.readSegment f.number f.segment).checkPattern f).events = t.readEvents f := by
    intro u hu hq
    rw [← hq] at hp
    unfold State.readSegment State.readEvents
    rw [hu.record]
    split
    · exact State.checkPattern_events f (hu.2.2 trivial) hp
    · obtain ⟨-, -, he⟩ := (hu.setRecord f.number true).takeSegment f.number f.segment
      refine State.checkPattern_events f (he trivial) ?_
      simpa [State.setRecord] using hp
  unfold State.readReturn
  dsimp only
  split
  · exact filled _ h rfl
  · exact filled _ h rfl

end

end Sys2Proof.Machine
end

section
/-!
PROOFS. Settles O41: a good return frame at Port D, judged, and passed, dropped or read (R5, R10 to R13, R16, R41,
R156).
-/

namespace Sys2Proof.Machine

/-! ## The row -/

/-- R4: a good return frame at a Port D that is not DOWN. -/
theorem exec_goodReturn {s : State} {o : List Byte} {f : Frame} (hr : s.pins.rstLow = false)
    (hf : goodFrame? true o = some f) (hd : s.chain.portD.state ≠ .down) :
    exec (.returnFrameReceive o) s = .next (s.findSyncD.goodReturn f o) := by
  refine congrArg _ ((State.unlessHeld_high hr _).trans ?_)
  rw [if_neg (by simpa using hd), hf]

/-- R4: at a DOWN Port D the row does not occur. -/
theorem exec_goodReturn_none {s : State} {o : List Byte} (hr : s.pins.rstLow = false)
    (hd : s.chain.portD.state = .down) : exec (.returnFrameReceive o) s = .next s := by
  refine congrArg _ ((State.unlessHeld_high hr _).trans ?_)
  rw [if_pos (by simpa using hd)]

/-- R5: a good frame judged at a port that is not DOWN. -/
theorem PortRx.judgeGood_eq {p : PortRx} (g : Nat) (h : p.state ≠ .down) : p.judgeGood g =
    ⟨if p.state = .locked ∨ g ≤ min 255 (p.good + 1) then .locked else .seeking, min 255 (p.good + 1), 0⟩ := by
  unfold PortRx.judgeGood
  cases hp : p.state with
  | down => exact absurd hp h
  | seeking => simp
  | locked => simp

/-- R5, R11, R13: Port D after a good return frame, and what its lock brings. -/
theorem State.setPortD_goodReturn {s : State} (hd : s.chain.portD.state ≠ .down)
    (hc : s.chain.turnaround = turnaroundOf s.chain.leader s.chain.portU.state s.chain.portD.state) :
    let locks : Prop := s.chain.portD.state = .locked ∨ s.chain.lockG ≤ min 255 (s.chain.portD.good + 1)
    let port : PortRx := ⟨if locks then .locked else .seeking, min 255 (s.chain.portD.good + 1), 0⟩
    s.setPortD (s.chain.portD.judgeGood s.chain.lockG) = if s.chain.turnaround = .chainEnd ∧ locks
      then { s with
        chain := { s.chain with
          portD := port, turnaround := .through, discard := true, switchNo := s.chain.nextNumber, switchOpen := true
          sinceSwitch := 0 }
        events := { s.events with latch := s.events.latch ||| Event.word .topology } }
      else { s with chain := { s.chain with portD := port } } := by
  intro locks port
  have hp : s.chain.portD.judgeGood s.chain.lockG = port := PortRx.judgeGood_eq _ hd
  have hl : port.state = .locked ↔ locks := by
    show (if locks then PortState.locked else PortState.seeking) = _ ↔ _
    split <;> simp [*]
  rw [hp]
  rcases State.setPortD_cases hc port with ⟨ht, hk, e⟩ | ⟨ht, hk, e⟩ | ⟨ht, hk, e⟩
  · rw [if_pos ⟨ht, hl.1 hk⟩, e]
  · have hth := (turnaroundOf_eq_iff s.chain.leader s.chain.portU.state s.chain.portD.state).2.1.1 (hc.symm.trans ht)
    exact absurd (hl.2 (.inl hth.2)) hk
  · have stays : ¬(s.chain.portD.state = .locked ∧ port.state ≠ .locked) := fun h => h.2 (hl.2 (.inl h.1))
    rw [if_neg fun h => ht ⟨h.1, hl.2 h.2⟩, e, if_neg stays]
    simp

/-! ## The frame passed, dropped or read -/

section
variable {p : State} (f : Frame) (o : List Byte)

theorem State.passGoodReturn_detached (h : p.chain.turnaround = .detached) :
    p.passGoodReturn f o = p.sendU (some o) := by
  unfold State.passGoodReturn
  rw [h]

theorem State.passGoodReturn_chainEnd (h : p.chain.turnaround = .chainEnd) : p.passGoodReturn f o = p := by
  unfold State.passGoodReturn
  rw [h]

/-- R13: in THROUGH the frames before the switch are dropped. -/
theorem State.passGoodReturn_through (h : p.chain.turnaround = .through) : p.passGoodReturn f o =
    if p.chain.beforeSwitch f.number then p.sendU none
    else State.sendU (some o) (State.readReturn f { p with chain := { p.chain with discard := false } }) := by
  unfold State.passGoodReturn
  rw [h]

end

/-- R10, R12, R41, R156: what the reading of a good return frame in THROUGH leaves, from the state `s` with the chain
record and the events that the judgement of Port D has left. -/
theorem State.passGoodReturn_reads (s : State) (f : Frame) (o : List Byte) {c : Chain} (e : Events)
    (hl : c.leader = s.chain.leader) (ha : c.address = s.chain.address) (ht : c.turnaround = .through)
    (hb : c.discard = false ∨ (f.number - c.switchNo).toNat < 2147483648) :
    let p : State := { s with chain := c, events := e }
    ∃ t, p.passGoodReturn f o = t ∧
      t.chain = { c with discard := false, txU := if s.chain.leader then none else some o } ∧
      t.level = s.level ∧ t.delay = s.delay ∧ t.cores = s.cores ∧ t.pickups = s.pickups ∧
      t.scenes = s.scenes ∧ t.check = s.check ∧ t.cue = s.cue ∧ t.hold = s.hold ∧ t.guards = s.guards ∧
      t.taps = s.taps ∧ t.pins = s.pins ∧
      t.pattern = s.pattern.take f.number (f.slots.get s.pattern.chkSlot) ∧ t.events = p.readEvents f ∧
      (∀ i, i ≠ turnOf f.number → t.buffer.get i = s.buffer.get i) ∧
      (s.hold.condition = .running →
        (t.buffer.get (turnOf f.number)).valid = true ∧
        (t.buffer.get (turnOf f.number)).tag = f.number ∧
        ∀ i, (t.buffer.get (turnOf f.number)).samples.get i =
          match (s.pickups.get i).slot with
          | some x => f.slots.get x
          | none => 0) ∧
      (s.hold.condition ≠ .running → t.buffer = s.buffer) ∧
      (s.lane.record.get (turnOf f.number) = some ⟨f.number, false⟩ → t.lane = s.lane) ∧
      (s.lane.record.get (turnOf f.number) ≠ some ⟨f.number, false⟩ →
        t.lane.record.get (turnOf f.number) = some ⟨f.number, true⟩ ∧
        t.lane = ((s.setRecord f.number true).takeSegment f.number f.segment).lane) := by
  intro p
  let u : State := { s with chain := { c with discard := false }, events := e }
  have before : p.chain.beforeSwitch f.number = false := by
    show (c.discard && decide (2147483648 ≤ (f.number - c.switchNo).toNat)) = false
    rcases hb with hb | hb
    · simp [hb]
    · simp only [Bool.and_eq_false_iff, decide_eq_false_iff_not]
      exact .inr (by omega)
  have hp : p.passGoodReturn f o = (u.readReturn f).sendU (some o) := by
    rw [State.passGoodReturn_through (p := p) f o ht, if_neg (by simp [before])]
  have hbuf : (u.readReturn f).buffer = if s.hold.condition = .running then (s.fillBuffer f).buffer else s.buffer :=
    u.readReturn_buffer f
  obtain ⟨valid, tag, samples, others⟩ := s.fillBuffer_get f
  refine ⟨_, hp, ?_, by simp [u], by simp [u], by simp [u], by simp [u], by simp [u], by simp [u], by simp [u],
    by simp [u], by simp [u], by simp [u], by simp [u], by simp [u], ?_, fun i hi => ?_, fun hc => ?_, fun hc => ?_,
    fun hk => ?_, fun hk => ?_⟩
  · simp [u, hl]
  · have hears : p.HearsAs True u := ⟨rfl, rfl, fun _ => rfl⟩
    simpa using u.readReturn_events f hears (.inl rfl)
  · rw [State.sendU_buffer, hbuf]
    split
    · exact others i hi
    · rfl
  · rw [State.sendU_buffer, hbuf, if_pos hc]
    exact ⟨valid, tag, samples⟩
  · rw [State.sendU_buffer, hbuf, if_neg hc]
  · rw [State.sendU_lane, State.readReturn_lane, if_pos hk]
  · rw [State.sendU_lane, State.readReturn_lane, if_neg hk, State.readSegment_lane_congr (s := s) (t := u) rfl ha]
    exact ⟨by simp [State.setRecord], rfl⟩

/-- Settles O41: Port D is judged (`State.setPortD_goodReturn`), then the frame is passed, dropped or read. -/
theorem goodReturnFrameIsReadOrDropped : Obligations.GoodReturnFrameIsReadOrDropped := by
  intro s o f hr hf
  refine ⟨fun hd => exec_goodReturn_none hr hd, ?_⟩
  intro hd hc locks port p
  have hx : exec (.returnFrameReceive o) s = .next (p.passGoodReturn f o) := by
    rw [exec_goodReturn hr hf hd, State.goodReturn]
    refine congrArg _ (congrArg _ ?_)
    exact State.setPortD_goodReturn (s := s.findSyncD) hd hc.1
  have judged : ∃ (c : Chain) (e : Events), p = { s with chain := c, events := e } ∧ c.leader = s.chain.leader ∧
      c.address = s.chain.address := by
    by_cases h : s.chain.turnaround = .chainEnd ∧ locks
    · exact ⟨_, _, if_pos h, rfl, rfl⟩
    · exact ⟨_, _, if_neg h, rfl, rfl⟩
  obtain ⟨c, e, hp, hl, ha⟩ := judged
  clear_value p
  subst hp
  rw [hx]
  refine ⟨fun ht => ?_, fun ht => ?_, fun ht hm hn => ?_, fun ht hm => ?_⟩
  · exact congrArg _ (State.passGoodReturn_detached f o ht)
  · exact congrArg _ (State.passGoodReturn_chainEnd f o ht)
  · have before : c.beforeSwitch f.number = true := by
      rw [Chain.beforeSwitch, hm, Bool.true_and]
      exact decide_eq_true hn
    exact congrArg _ ((State.passGoodReturn_through f o ht).trans (if_pos before))
  · obtain ⟨t, he, rest⟩ := s.passGoodReturn_reads f o e hl ha ht hm
    exact ⟨t, congrArg _ he, rest⟩

end Sys2Proof.Machine
end

section
/-!
PROOFS. Settles O40: a bad frame period at a Port U that stays LOCKED (R7, R8, R12, R13, R18, R156, R164, R190).
-/

namespace Sys2Proof.Machine

/-- R13: what a handled frame period does to the chain, whatever it sends and takes. -/
theorem Chain.handledTo_countHandled (c : Chain) (n : FrameNo) (p : PortRx) (b : Bool) (x y : FrameNo)
    (u d : Option (List Byte)) : c.HandledTo n { c.countHandled n with
      portU := p, syncU := b, counter := x, expected := y, txU := u, txD := d } :=
  ⟨rfl, rfl, rfl, rfl, by simp [Chain.countHandled]⟩

variable {s : State}

/-! ## The row -/

/-- R4, R7: a bad frame period at a member's Port U. -/
theorem exec_badOutbound {c : Instr} {octets : Option (List Byte)} {b : Bool} (hr : s.pins.rstLow = false)
    (hl : s.chain.leader = false) (hd : s.chain.portU.state ≠ .down)
    (hc : c = .syncMissingPeriod .U b ∧ octets = none ∧ s.chain.syncU = true ∨
      ∃ o, c = .outboundFrameReceive o b ∧ octets = some o ∧ goodFrame? false o = none) :
    exec c s = .next ((s.setHoldPulled b).findSyncU.badOutbound octets) := by
  rcases hc with ⟨rfl, rfl, hs⟩ | ⟨o, rfl, rfl, hf⟩
  · have hf : (s.setHoldPulled b).findSyncU = s.setHoldPulled b := by
      simp only [State.findSyncU, State.setHoldPulled]
      rw [← hs]
    rw [hf]
    exact exec_syncMissingPeriod_U hr hl hd hs
  · exact exec_outboundFrameReceive_bad hr hl hd hf

/-! ## The frame period handled -/

section
variable (n : FrameNo) (o : Option (List Byte))

/-- R164: an own turn missed. -/
theorem State.missTurn_lane (u : State) : (u.missTurn n).lane =
    { u.lane with sent := if turnOf n = u.chain.address then 0 else u.lane.sent } := by
  unfold State.missTurn
  by_cases h : turnOf n = u.chain.address
  · rw [if_pos ((u.ownTurn_iff n).2 h), if_pos h]
  · rw [if_neg (mt (u.ownTurn_iff n).1 h), if_neg h]

/-- R7, R12, R18, R156, R164, R190: what a bad frame period handled as frame `n` leaves, but for the chain. -/
theorem State.handleBad_leaves (hr : s.pins.rstLow = false) :
    (s.computed n).SameBlocks (s.handleBad n o) ∧ (s.handleBad n o).events = s.pacedEvents n ∧
    (s.handleBad n o).pattern = s.pattern.generate ∧
    (s.handleBad n o).lane = { (s.computed n).lane with
      sent := if turnOf n = s.chain.address then 0 else s.lane.sent } := by
  let u := ((s.paceFrame n).missTurn n).sendD o
  have blocks : (s.computed n).SameBlocks u := by
    simp [u, State.SameBlocks, State.paceFrame_eq n hr, State.generate]
  have events : u.events = s.pacedEvents n := by
    simp [u, State.paceFrame_eq n hr, State.generate, State.computed_events]
  have lane : u.lane = { (s.computed n).lane with
      sent := if turnOf n = s.chain.address then 0 else s.lane.sent } := by
    simp only [u, State.sendD_lane, State.missTurn_lane, State.paceFrame_chain]
    rw [State.paceFrame_eq n hr, ← s.computed_sent n]
    rfl
  have hb : s.handleBad n o = u ∨ s.handleBad n o = u.sendU o := by
    show (if u.chain.turnaround = .chainEnd then u.sendU o else u) = u ∨ _ = u.sendU o
    split
    · exact .inr (if_pos ‹_›)
    · exact .inl rfl
  rcases hb with hb | hb <;> rw [hb]
  · exact ⟨blocks, events, by simp [u], lane⟩
  · exact ⟨blocks, events, by simp [u], lane⟩

end

/-- R7: a bad frame counted at Port U, with the level of HOLD_N that its row carries. -/
def State.counting (s : State) (b : Bool) : State :=
  { s.setHoldPulled b with events := { s.events with
    latch := s.events.latch ||| Event.word .badFrame
    badU := min top32 (s.events.badU + 1) } }

/-- R5, R7, R8: the bad frame that leaves Port U LOCKED is handled as the expected number. -/
theorem State.badOutbound_locked {o : Option (List Byte)} {b : Bool} (hu : s.chain.portU.state = .locked)
    (hb : min 64 (s.chain.portU.bad + 1) < s.chain.lockB) :
    (s.setHoldPulled b).findSyncU.badOutbound o = State.expect (s.chain.expected + 1)
      (State.handleBad s.chain.expected o ((s.counting b).withChain { s.chain with
        syncU := true, portU := ⟨.locked, 0, min 64 (s.chain.portU.bad + 1)⟩ })) := by
  have hj : s.chain.portU.judgeBad s.chain.lockB = ⟨.locked, 0, min 64 (s.chain.portU.bad + 1)⟩ := by
    simp only [PortRx.judgeBad, hu]
    rw [if_neg (by omega)]
  unfold State.badOutbound
  simp only [State.setHoldPulled, State.findSyncU, hu, hj, if_true]
  rfl

/-- Settles O40, from what the handling of a bad frame period leaves (`State.handleBad_leaves`). -/
theorem lockedBadFrameIsHandled : Obligations.LockedBadFrameIsHandled := by
  intro s c octets b hr hl hu hb hc
  rw [exec_badOutbound hr hl (by simp [hu]) hc, State.badOutbound_locked hu hb]
  set n := s.chain.expected
  let d : Chain := { s.chain with syncU := true, portU := ⟨.locked, 0, min 64 (s.chain.portU.bad + 1)⟩ }
  let x := (s.counting b).withChain d
  have hx : x.computed n = ((s.counting b).computed n).withChain d := (s.counting b).computed_withChain n rfl
  obtain ⟨blocks, events, pattern, lane⟩ := State.handleBad_leaves (s := x) n octets hr
  have chain := x.handleBad_chain n octets
  have hloss : (x.takeLoss (n - 8)).lane = (s.takeLoss (n - 8)).lane := State.takeLoss_lane_congr (n - 8) rfl rfl
  have hlane := x.computed_lane n
  have hready : (x.computed n).lane.ready = ((s.setHoldPulled b).paceFrame n).lane.ready := by
    have hs : x.seen = (s.setHoldPulled b).seen := rfl
    rw [State.paceFrame_eq (s := s.setHoldPulled b) n hr, hlane, State.checkReplies_of_seen hs]
    exact (congrArg Lane.ready (State.computed_lane n (s.setHoldPulled b))).symm
  have hevents : x.pacedEvents n = (s.counting b).pacedEvents n := by
    rw [← State.computed_events, hx, ← State.computed_events]
    rfl
  obtain ⟨bad, latched⟩ := (s.counting b).pacedEvents_stands n
  have tchain : ((x.handleBad n octets).expect (n + 1)).chain = { s.chain.countHandled n with
      portU := ⟨.locked, 0, min 64 (s.chain.portU.bad + 1)⟩, syncU := true, expected := n + 1, txD := octets
      txU := if s.chain.turnaround = .chainEnd then octets else s.chain.txU } := by
    have leader : x.chain.leader = false := hl
    rw [State.expect_chain, chain, leader]
    rfl
  obtain ⟨hqueue, -⟩ := s.takeLoss_lane (n - 8)
  have tlane : (x.handleBad n octets).lane = { (s.takeLoss (n - 8)).lane with
      ready := ((s.setHoldPulled b).paceFrame n).lane.ready
      sent := if turnOf n = s.chain.address then 0 else s.lane.sent } := by
    rw [lane, ← hready, hlane, hloss]
    rfl
  refine ⟨_, rfl, rfl, by rw [tchain]; rfl, by rw [tchain], ?_, by rw [tchain], by rw [tchain]; rfl,
    by rw [tchain]; rfl, by rw [tchain], by rw [tchain], ?_, ?_, State.pacedTo_of_sameBlocks (u := x) n rfl blocks,
    by simp; rfl, pattern, ?_, events.trans hevents, ?_, ?_, ?_, ?_, ?_, ?_⟩
  · rw [tchain]
    exact Chain.handledTo_countHandled _ _ _ _ _ _ _ _
  · rw [State.expect_events, events, hevents, bad]
    rfl
  · rw [State.expect_events, events, hevents, latched _ (by simp)]
    exact Events.latched_set s.events .badFrame .badFrame |>.trans (by simp)
  · show (x.handleBad n octets).pins = ⟨false, b⟩
    rw [(State.handleBad_frame _ _ _).1]
    exact congrArg (Pins.mk · b) hr
  all_goals rw [State.expect_lane, tlane]
  · rw [hqueue]

end Sys2Proof.Machine
end

section
/-!
PROOFS. A good outbound frame handled, at a member and at the leader: what it leaves (R9, R10, R12, R13, R18, R30, R156,
R163 to R166, R190, R191).
-/

namespace Sys2Proof.Machine

/-- R190: the generator's word moves neither its switch nor its slot. -/
theorem Pattern.generate_generator (p : Pattern) : p.generate.genOn = p.genOn ∧ p.generate.genSlot = p.genSlot := by
  unfold Pattern.generate
  split <;> exact ⟨rfl, rfl⟩

variable {s : State} (f : Frame)

/-! ## The frame period before the writes -/

section
variable (n : FrameNo) (hr : s.pins.rstLow = false)
include hr

/-- R13, R18, R156, R190: what the writes find. -/
theorem State.paceFrame_facts : (s.computed n).SameBlocks (s.paceFrame n) ∧
    (s.paceFrame n).events = s.pacedEvents n ∧ (s.paceFrame n).lane = (s.computed n).lane ∧
    (s.paceFrame n).lane.sent = s.lane.sent := by
  rw [State.paceFrame_eq n hr]
  refine ⟨by simp [State.SameBlocks, State.generate], ?_, rfl, s.computed_sent n⟩
  exact s.computed_events n

/-- R30, R178, R190: the slots of the feeds and of the generator stand. -/
theorem State.paceFrame_slots : (∀ i, ((s.paceFrame n).level.feeds.get i).slot = (s.level.feeds.get i).slot) ∧
    (s.SlotLaw → (s.paceFrame n).SlotLaw) := by
  have feeds : ∀ i, ((s.paceFrame n).level.feeds.get i).slot = (s.level.feeds.get i).slot := fun i => by
    obtain ⟨hl, -⟩ := (State.paceFrame_facts n hr).1
    rw [hl, (s.computed_slots n).1]
  obtain ⟨hon, hslot⟩ := s.pattern.generate_generator
  refine ⟨feeds, fun ⟨hu, hg⟩ => ⟨fun i j => ?_, fun h i => ?_⟩⟩
  · rw [feeds, feeds]
    exact hu i j
  · rw [State.paceFrame_pattern, hon] at h
    rw [State.paceFrame_pattern, hslot, feeds]
    exact hg h i

end

/-! ## The frame written -/

/-- R9, R165, R166: its roll-call octets. -/
theorem State.handledFrame_roll :
    (∀ a, a ≠ s.chain.address → (s.handledFrame f).roll.get a = f.roll.get a) ∧
    ((f.roll.get s.chain.address).getLsbD 7 = true →
      (s.handledFrame f).roll.get s.chain.address = f.roll.get s.chain.address) ∧
    ((f.roll.get s.chain.address).getLsbD 7 = false →
      ((s.paceFrame f.number).clashes f = true → (s.handledFrame f).roll.get s.chain.address =
        ((s.paceFrame f.number).latch .addressClash).rollCall) ∧
      ((s.paceFrame f.number).clashes f = false →
        (s.handledFrame f).roll.get s.chain.address = (s.paceFrame f.number).rollCall)) := by
  have ha : (s.paceFrame f.number).chain.address = s.chain.address := by
    rw [State.paceFrame_chain]
    rfl
  have h := (s.paceFrame f.number).writtenFrame_roll f (s.paceOuts f.number) (streamWord s.pattern.history)
  rwa [ha] at h

/-- R166, R169: an own octet written carries PRESENT, and LEADER at the leader alone. -/
theorem State.handledFrame_roll_bits (h : (f.roll.get s.chain.address).getLsbD 7 = false) :
    ((s.handledFrame f).roll.get s.chain.address).getLsbD 7 = true ∧
    ((s.handledFrame f).roll.get s.chain.address).getLsbD 6 = s.chain.leader := by
  have hl : (s.paceFrame f.number).chain.leader = s.chain.leader := by
    rw [State.paceFrame_chain]
    rfl
  obtain ⟨-, -, own⟩ := State.handledFrame_roll (s := s) f
  obtain ⟨clash, clear⟩ := own h
  cases hc : (s.paceFrame f.number).clashes f with
  | true =>
    rw [clash hc, ← hl]
    exact ((s.paceFrame f.number).latch .addressClash).rollCall_high_bits
  | false =>
    rw [clear hc, ← hl]
    exact (s.paceFrame f.number).rollCall_high_bits

section
variable (hr : s.pins.rstLow = false)
include hr

/-- R9, R30, R152, R190: the slots of the frame sent on Port D. -/
theorem State.handledFrame_slots :
    (∀ x, (∀ i, (s.level.feeds.get i).slot ≠ some x) → (s.pattern.genOn && s.pattern.genSlot == x) = false →
      (s.handledFrame f).slots.get x = f.slots.get x) ∧
    (s.pattern.genOn = true →
      (s.handledFrame f).slots.get s.pattern.genSlot = streamWord s.pattern.history) ∧
    (s.SlotLaw → ∀ i x, (s.level.feeds.get i).slot = some x →
      (s.handledFrame f).slots.get x = (s.paceOuts f.number).get i) := by
  obtain ⟨feeds, law⟩ := State.paceFrame_slots f.number hr
  obtain ⟨hon, hslot⟩ := s.pattern.generate_generator
  have h := (s.paceFrame f.number).writtenFrame_slots f (s.paceOuts f.number) (streamWord s.pattern.history)
  simp only [State.paceFrame_pattern, hon, hslot, feeds] at h
  obtain ⟨others, generator, held⟩ := h
  exact ⟨others, generator, fun hs => held (law hs)⟩

/-! ## The state once it is sent -/

theorem State.sentFrame_facts : (s.computed f.number).SameBlocks (s.sentFrame f) ∧
    (s.sentFrame f).events = ((s.paceFrame f.number).afterWrites f).events ∧
    (s.sentFrame f).lane = { (s.takeLoss (f.number - 8)).lane with
      ready := ((s.paceFrame f.number).afterWrites f).lane.ready
      sent := ((s.paceFrame f.number).afterWrites f).lane.sent } ∧
    (s.sentFrame f).pattern = s.pattern.generate ∧ (s.sentFrame f).buffer = s.buffer ∧
    (s.sentFrame f).chain.address = s.chain.address := by
  obtain ⟨blocks, -, lane, -⟩ := State.paceFrame_facts f.number hr
  refine ⟨blocks.trans (by simp [State.SameBlocks, State.sentFrame]), rfl, ?_, by simp [State.sentFrame],
    by simp [State.sentFrame], by rw [State.sentFrame_chain]; rfl⟩
  show ((s.paceFrame f.number).afterWrites f).lane = _
  rw [State.afterWrites_lane, lane, State.computed_lane]

/-- R156: what the part reads its own frame by: the lane and the address after the loss, and the events so far. -/
theorem State.hearsAs_sentFrame (P : Prop) (o : Option (List Byte)) :
    State.HearsAs P { s.takeLoss (f.number - 8) with events := (s.sentFrame f).events } ((s.sentFrame f).sendU o) := by
  obtain ⟨-, -, lane, -, -, address⟩ := State.sentFrame_facts f hr
  refine ⟨?_, ?_, fun _ => rfl⟩
  · show (s.takeLoss (f.number - 8)).chain.address = (s.sentFrame f).chain.address
    rw [address]
    simp
  · show (s.sentFrame f).lane = _
    rw [State.sendU_lane, lane]

/-! ## The frame handled -/

/-- R12: outside END the frame is sent on and nothing is read. -/
theorem State.handleGood_sends (he : s.chain.turnaround ≠ .chainEnd) :
    s.handleGood f = s.sentFrame f ∧
    s.HandledEvents (s.sentFrame f).events (s.handledFrame f) (s.handleGood f) ∧
    s.ReadsOwn (s.handledFrame f) (s.handleGood f) := by
  obtain ⟨-, -, lane, pattern, buffer, -⟩ := State.sentFrame_facts f hr
  have ht : s.handleGood f = s.sentFrame f := (s.handleGood_eq f).trans (if_neg he)
  rw [ht]
  refine ⟨rfl, by rw [State.HandledEvents, if_neg he], fun h => absurd h he, fun _ => ?_, fun h => absurd h he,
    fun _ => pattern, fun h => absurd h he, fun _ => buffer⟩
  rw [lane]
  rfl

/-- R10, R12, R156, R191: in END the part reads the frame it has turned around. -/
theorem State.handleGood_reads (he : s.chain.turnaround = .chainEnd) :
    (s.sentFrame f).SameBlocks (s.handleGood f) ∧
    (s.handleGood f).lane.ready = (s.sentFrame f).lane.ready ∧
    (s.handleGood f).lane.sent = (s.sentFrame f).lane.sent ∧
    s.HandledEvents (s.sentFrame f).events (s.handledFrame f) (s.handleGood f) ∧
    s.ReadsOwn (s.handledFrame f) (s.handleGood f) := by
  obtain ⟨blocks, -, lane, pattern, buffer, -⟩ := State.sentFrame_facts f hr
  set g := s.handledFrame f
  set v := (s.sentFrame f).sendU (some (g.turnedBy s.chain.address).octets)
  have ht : s.handleGood f = v.readReturn (g.turnedBy s.chain.address) := (s.handleGood_eq f).trans (if_pos he)
  have hrecord : v.lane.record.get (turnOf g.number) = s.lane.record.get (turnOf g.number) := by
    show (s.sentFrame f).lane.record.get (turnOf f.number) = _
    rw [lane]
    exact s.takeLoss_record f.number
  have hlane := v.readReturn_lane (g.turnedBy s.chain.address)
  have hbuffer := v.readReturn_buffer (g.turnedBy s.chain.address)
  have hears : ∀ P, State.HearsAs P { s.takeLoss (f.number - 8) with events := (s.sentFrame f).events } v := fun P =>
    State.hearsAs_sentFrame f hr P _
  have lost : (s.takeLoss (f.number - 8)).HearsAs False v := ⟨(hears False).1, (hears False).2.1, False.elim⟩
  have hcondition : v.hold.condition = s.hold.condition := State.sentFrame_condition s f
  have hslot : ∀ i, (v.pickups.get i).slot = (s.pickups.get i).slot := fun i => by
    obtain ⟨-, hp, -⟩ := blocks
    exact (congrArg (fun p => (Bank.get p i).slot) hp).trans ((s.computed_slots f.number).2 i)
  rw [ht]
  refine ⟨by simp [v, State.SameBlocks], ?_, ?_, ?_, fun _ hk => ?_, fun hk => ?_, fun _ => ?_, fun h => absurd he h,
    fun _ hc => ?_, fun hc => ?_⟩
  · rw [hlane]
    split
    · rfl
    · rw [(State.takeSegment_replies _ _ _).2.1]
      rfl
  · rw [hlane]
    split
    · rfl
    · rw [(State.takeSegment_replies _ _ _).2.2]
      rfl
  · rw [State.HandledEvents, if_pos he]
    refine State.readReturn_events _ (hears True) (.inr ?_)
    simpa [v] using pattern
  · have hno := hlane.trans (if_neg fun h => hk (hrecord.symm.trans h))
    obtain ⟨-, h, -⟩ := (lost.setRecord g.number true).takeSegment g.number g.segment
    rw [hno]
    refine ⟨?_, h⟩
    rw [(State.takeSegment_replies _ _ _).1]
    exact Bank.get_set_self _ _ _
  · have hyes := hlane.trans (if_pos (hrecord.trans (hk.resolve_left fun h => h he)))
    rw [hyes]
    exact lost.2.1
  · have hv : v.pattern = s.pattern.generate := pattern
    rw [State.readReturn_pattern, hv, s.pattern.generate_checker.1]
    rfl
  · obtain ⟨valid, tag, samples, others⟩ := v.fillBuffer_get (g.turnedBy s.chain.address)
    rw [hbuffer, if_pos (hcondition.trans hc)]
    refine ⟨valid, tag, fun i => ?_, fun i hi => (others i hi).trans (congrArg (Bank.get · i) buffer)⟩
    have h := samples i
    rw [hslot i] at h
    exact h
  · rw [hbuffer, if_neg fun h => hc.resolve_left (fun k => k he) (hcondition.symm.trans h)]
    exact buffer

/-- R12, R18, R156: what a handled good frame leaves of the blocks, the replies and the events. -/
theorem State.handleGood_leaves : (s.computed f.number).SameBlocks (s.handleGood f) ∧
    (s.handleGood f).lane.ready = ((s.paceFrame f.number).afterWrites f).lane.ready ∧
    (s.handleGood f).lane.sent = ((s.paceFrame f.number).afterWrites f).lane.sent ∧
    s.HandledEvents ((s.paceFrame f.number).afterWrites f).events (s.handledFrame f) (s.handleGood f) ∧
    s.ReadsOwn (s.handledFrame f) (s.handleGood f) := by
  obtain ⟨blocks, -⟩ := State.sentFrame_facts f hr
  by_cases he : s.chain.turnaround = .chainEnd
  · obtain ⟨kept, ready, sent, events, reads⟩ := State.handleGood_reads f hr he
    exact ⟨blocks.trans kept, ready, sent, events, reads⟩
  · obtain ⟨ht, events, reads⟩ := State.handleGood_sends f hr he
    refine ⟨by rwa [ht], by rw [ht]; rfl, by rw [ht]; rfl, events, reads⟩

end

end Sys2Proof.Machine
end

section
/-!
PROOFS. Settles O37 and O38: a good outbound frame at a member's LOCKED Port U, and the one that brings the port to
LOCKED (R5, R8 to R13, R17, R18, R163, R165, R166).
-/

namespace Sys2Proof.Machine

/-! ## The judged port -/

/-- The state with its Port U judged and its sync pattern found. -/
def State.withPortU (p : PortRx) (b : Bool) (s : State) : State :=
  s.withChain { s.chain with portU := p, syncU := b }

section
variable {s : State} (p : PortRx) (b : Bool)

theorem State.takeLoss_withPortU (k : FrameNo) : (s.withPortU p b).takeLoss k = (s.takeLoss k).withPortU p b := by
  unfold State.withPortU
  rw [s.takeLoss_withChain k (by rfl), (s.takeLoss_frame k).2.1]

theorem State.computed_withPortU (n : FrameNo) : (s.withPortU p b).computed n = (s.computed n).withPortU p b := by
  unfold State.withPortU
  rw [s.computed_withChain n (by rfl), (State.computed_frame n s).2.1]

theorem State.pacedEvents_withPortU (n : FrameNo) : (s.withPortU p b).pacedEvents n = s.pacedEvents n := by
  rw [← State.computed_events, State.computed_withPortU, ← State.computed_events]
  rfl

theorem State.paceFrame_withPortU (n : FrameNo) (hr : s.pins.rstLow = false) :
    (s.withPortU p b).paceFrame n = (s.paceFrame n).withPortU p b := by
  rw [State.paceFrame_eq n hr, State.paceFrame_eq (s := s.withPortU p b) n hr, State.computed_withPortU]
  rfl

theorem State.readEvents_congr {s t : State} (h : s.HearsAs True t) (hp : t.pattern = s.pattern) (f : Frame) :
    t.readEvents f = s.readEvents f := by
  rw [← State.readReturn_events f h (.inl hp)]
  exact (State.readReturn_events f ⟨rfl, rfl, fun _ => rfl⟩ (.inl rfl)).symm

variable {p b} {g : Frame} {t : State}

theorem State.ReadsOwn.of_withPortU (h : (s.withPortU p b).ReadsOwn g t) : s.ReadsOwn g t := by
  obtain ⟨fresh, known, pattern⟩ := h
  rw [State.takeLoss_withPortU] at fresh known
  refine ⟨fun hc hk => ?_, known, pattern⟩
  obtain ⟨record, lane⟩ := fresh hc hk
  refine ⟨record, lane.trans ?_⟩
  rw [State.readSegment_lane_congr (s := s.takeLoss (g.number - 8))
    (t := (s.takeLoss (g.number - 8)).withPortU p b) rfl rfl]

theorem State.HandledEvents.of_withPortU {before : Events} (h : (s.withPortU p b).HandledEvents before g t) :
    s.HandledEvents before g t := by
  refine Eq.trans h (if_congr Iff.rfl ?_ rfl)
  rw [State.takeLoss_withPortU]
  refine State.readEvents_congr ?_ ?_ g
  · exact ⟨rfl, rfl, fun _ => rfl⟩
  · rfl

end

/-! ## A good frame handled -/

section
variable {s : State} {f : Frame}

/-- R165: a clash as the statement of a handled frame names it. -/
theorem State.paceFrame_clashes : (s.paceFrame f.number).clashes f = true ↔
    (f.roll.get s.chain.address).getLsbD 7 = true ∨ turnOf f.number = s.chain.address ∧ f.segment.mark ≠ 0 := by
  rw [State.clashes_iff, State.paceFrame_chain]
  rfl

/-- R163: only the replies that `t` is left with say what an own turn sends. -/
theorem State.OwnTurnSends.congr {ready : List Reply} {sent : Nat} {a w : Segment} {t u : State}
    (h : State.OwnTurnSends ready sent a w t) (hr : u.lane.ready = t.lane.ready) (hs : u.lane.sent = t.lane.sent) :
    State.OwnTurnSends ready sent a w u := by
  unfold State.OwnTurnSends
  rwa [hr, hs]

variable (hr : s.pins.rstLow = false)
include hr

/-- R163, R165: the events, the own turn and the replies of a handled good frame. -/
theorem State.handleGood_turn :
    let paced := s.paceFrame f.number
    let ready := paced.lane.ready
    let own : Prop := turnOf f.number = s.chain.address
    let clash : Prop := (f.roll.get s.chain.address).getLsbD 7 = true ∨ own ∧ f.segment.mark ≠ 0
    let g := s.handledFrame f
    let t := s.handleGood f
    (clash → s.HandledEvents ((s.pacedEvents f.number).set .addressClash) g t) ∧
    (¬clash → s.HandledEvents (s.pacedEvents f.number) g t) ∧
    (clash → g.segment = f.segment ∧ t.events.latched .addressClash = true ∧
      (own ∨ 0 < s.lane.sent → t.lane.ready = ready.drop 1 ∧ t.lane.sent = 0) ∧
      (¬own → s.lane.sent = 0 → t.lane.ready = ready ∧ t.lane.sent = 0)) ∧
    (¬clash → ¬own → g.segment = f.segment ∧ t.lane.ready = ready ∧ t.lane.sent = s.lane.sent) ∧
    (¬clash → own → State.OwnTurnSends ready s.lane.sent f.segment g.segment t) := by
  intro paced ready own clash g t
  obtain ⟨-, hready, hsent, hevents, -⟩ := State.handleGood_leaves f hr
  obtain ⟨-, pevents, -, psent⟩ := State.paceFrame_facts f.number hr
  have haddress : paced.chain.address = s.chain.address := by
    show (s.paceFrame f.number).chain.address = _
    rw [State.paceFrame_chain]
    rfl
  have hclash : clash → paced.clashes f = true := State.paceFrame_clashes.2
  have hclear : ¬clash → paced.clashes f = false := fun h => by
    simpa using mt State.paceFrame_clashes.1 h
  have clashEvents : clash → s.HandledEvents ((s.pacedEvents f.number).set .addressClash) g t := fun h => by
    rwa [State.afterWrites_events, if_pos (hclash h), pevents] at hevents
  refine ⟨clashEvents, fun h => ?_, fun h => ?_, fun h ho => ?_, fun h ho => ?_⟩
  · rwa [State.afterWrites_events, if_neg (by rw [hclear h]; exact Bool.false_ne_true), pevents] at hevents
  · obtain ⟨-, hsegment, hdrops, hkeeps⟩ := paced.afterWrites_of_clash f (hclash h)
    rw [haddress, psent] at hdrops hkeeps
    refine ⟨hsegment, ?_, fun hd => ?_, fun ho hz => ?_⟩
    · have set : ((s.pacedEvents f.number).set .addressClash).latched .addressClash = true := by
        simp [Events.latched_set]
      rw [clashEvents h]
      split
      · exact State.readEvents_latched (s := { s.takeLoss (g.number - 8) with
          events := (s.pacedEvents f.number).set .addressClash }) set g
      · exact set
    · rw [hready, hsent, hdrops hd]
      exact ⟨rfl, rfl⟩
    · rw [hready, hsent, hkeeps ho hz]
      exact ⟨rfl, psent.trans hz⟩
  · obtain ⟨he, hsegment⟩ := paced.afterWrites_of_other f (hclear h) (by rwa [haddress])
    rw [hready, hsent, he]
    exact ⟨hsegment, rfl, psent⟩
  · obtain ⟨-, sends⟩ := paced.afterWrites_of_own f (hclear h) (ho.trans haddress.symm)
    rw [psent] at sends
    exact sends.congr hready hsent

/-- R8: a frame period handled clears neither BAD_FRAME nor FRAME_JUMP. -/
theorem State.handleGood_latched {e : Event} (he : e ∈ [Event.badFrame, .frameJump])
    (h : s.events.latched e = true) : (s.handleGood f).events.latched e = true := by
  obtain ⟨-, -, -, hevents, -⟩ := State.handleGood_leaves f hr
  obtain ⟨-, pevents, -, -⟩ := State.paceFrame_facts f.number hr
  have paced : (s.pacedEvents f.number).latched e = true := ((s.pacedEvents_stands f.number).2 e he).trans h
  have before : ((s.paceFrame f.number).afterWrites f).events.latched e = true := by
    rw [State.afterWrites_events, pevents]
    split
    · simp [Events.latched_set, paced]
    · exact paced
  rw [hevents]
  split
  · exact State.readEvents_latched (s := { s.takeLoss (f.number - 8) with
      events := ((s.paceFrame f.number).afterWrites f).events }) before _
  · exact before

/-- R9, R10, R12, R13, R18, R165: a member whose Port U has been judged handles a good frame and sets its number. -/
theorem State.handlesAs_handleGood (hl : s.chain.leader = false) (hf : f.ret = false) (p : PortRx) (b : Bool)
    (e : FrameNo) : s.HandlesAs f ((s.withPortU p b).handledFrame f) (((s.withPortU p b).handleGood f).expect e) := by
  set x := s.withPortU p b
  obtain ⟨blocks, -, -, -, reads⟩ := State.handleGood_leaves (s := x) f hr
  have chain := x.handleGood_chain f
  have txU : (x.handleGood f).chain.txU = if s.chain.turnaround = .chainEnd then
      some ((x.handledFrame f).turnedBy s.chain.address).octets else s.chain.txU := by
    have leader : x.chain.leader = false := hl
    rw [chain, leader]
    rfl
  have outs : x.paceOuts f.number =
      if s.hold.condition = .running then s.computeOuts (f.number - 8) else Bank.fill 32 0 :=
    (State.paceOuts_eq (s := x) f.number hr).trans
      (if_congr Iff.rfl (State.computeOuts_of_seen (s := x) (t := s) rfl _) rfl)
  obtain ⟨others, generator, held⟩ := State.handledFrame_slots (s := x) f hr
  obtain ⟨rollOthers, rollKept, rollOwn⟩ := State.handledFrame_roll (s := x) f
  obtain ⟨eClash, eClear, clash, clear, own⟩ := State.handleGood_turn (s := x) (f := f) hr
  have paced : x.paceFrame f.number = (s.paceFrame f.number).withPortU p b := State.paceFrame_withPortU p b _ hr
  have pacedEvents : x.pacedEvents f.number = s.pacedEvents f.number := State.pacedEvents_withPortU p b _
  rw [pacedEvents] at eClash eClear
  rw [paced] at clash clear own rollOwn
  refine ⟨State.pacedTo_of_sameBlocks (u := x) f.number rfl blocks, reads.of_withPortU, ?_, ?_, fun he => ?_,
    fun he => ?_, rfl, hf, rfl, rfl, rollOthers, rollKept, fun h => ?_, others, generator, fun hs i y hi => ?_,
    fun h => ?_, fun h => (eClash h).of_withPortU, fun h => (eClear h).of_withPortU, clash, clear, own⟩
  · show s.chain.HandledTo f.number { (x.handleGood f).chain with expected := e }
    rw [chain]
    exact Chain.handledTo_countHandled _ _ _ _ _ _ _ _
  · show (x.handleGood f).chain.txD = _
    rw [chain]
  · exact txU.trans (if_pos he)
  · exact txU.trans (if_neg he)
  · rw [← hl]
    exact State.handledFrame_roll_bits (s := x) f h
  · have h := (held hs i y hi).trans (congrArg (Bank.get · i) outs)
    refine ⟨fun hq => h.trans ?_, fun hc => h.trans ?_⟩
    · rw [if_neg (by simp [hq])]
      exact Bank.get_fill _ _
    · rw [if_pos hc]
  · obtain ⟨noted, clean⟩ := rollOwn h
    exact ⟨fun hc => noted (State.paceFrame_clashes.2 hc), fun hc =>
      clean (Bool.eq_false_iff.2 (mt State.paceFrame_clashes.1 hc))⟩

end

/-! ## The rows -/

/-- R4: a good frame at a port carries the direction it must see. -/
theorem ret_of_goodFrame {ret : Bool} {o : List Byte} {f : Frame} (h : goodFrame? ret o = some f) : f.ret = ret := by
  unfold goodFrame? at h
  split at h
  · obtain ⟨-, -, hr⟩ := ‹_ ∧ _ ∧ _›
    cases h
    exact hr
  · cases h

/-- R8: FRAME_JUMP at an unexpected number, with the level of HOLD_N that the row carries. -/
def State.jumping (s : State) (n : FrameNo) (b : Bool) : State :=
  { s.setHoldPulled b with events := { s.events with
    latch := if n = s.chain.expected then s.events.latch else s.events.latch ||| Event.word .frameJump } }

theorem State.jumping_latched (s : State) {n : FrameNo} (b : Bool) (h : n ≠ s.chain.expected) :
    (s.jumping n b).events.latched .frameJump = true := by
  simp [State.jumping, h, Events.latched_eq, Event.word_bit]

/-- R5, R8: a good frame at a LOCKED Port U. -/
theorem State.goodOutbound_locked {s : State} {o : List Byte} {f : Frame} {b : Bool}
    (hu : s.chain.portU.state = .locked) : (s.setHoldPulled b).findSyncU.goodOutbound f o =
      State.expect (f.number + 1) (State.handleGood f
        ((s.jumping f.number b).withPortU ⟨.locked, min 255 (s.chain.portU.good + 1), 0⟩ true)) := by
  have hj : s.chain.portU.judgeGood s.chain.lockG = ⟨.locked, min 255 (s.chain.portU.good + 1), 0⟩ := by
    simp only [PortRx.judgeGood, hu]
  have latched : State.latchIf (f.number != s.chain.expected) .frameJump
      ((s.setHoldPulled b).withPortU ⟨.locked, min 255 (s.chain.portU.good + 1), 0⟩ true) =
      (s.jumping f.number b).withPortU ⟨.locked, min 255 (s.chain.portU.good + 1), 0⟩ true := by
    by_cases hn : f.number = s.chain.expected
    · simp only [State.jumping, hn, bne_self_eq_false, if_true]
      rfl
    · have hb : (f.number != s.chain.expected) = true := bne_iff_ne.2 hn
      simp only [State.jumping, hb, if_neg hn]
      rfl
  rw [← latched]
  refine (if_pos hu).trans ?_
  show State.expect _ (State.handleGood f (State.latchIf _ _ { (s.setHoldPulled b).findSyncU with
    chain := { (s.setHoldPulled b).findSyncU.chain with portU := s.chain.portU.judgeGood s.chain.lockG } })) = _
  rw [hj]
  rfl

/-- Settles O37, from what a handled good frame leaves (`State.handlesAs_handleGood`). -/
theorem lockedGoodFrameIsHandled : Obligations.LockedGoodFrameIsHandled := by
  intro s o f b hr hl hu hf jumped
  let p : PortRx := ⟨.locked, min 255 (s.chain.portU.good + 1), 0⟩
  have hx : exec (.outboundFrameReceive o b) s =
      .next (((jumped.withPortU p true).handleGood f).expect (f.number + 1)) := by
    rw [exec_outboundFrameReceive_good hr hl (by simp [hu]) hf, State.goodOutbound_locked hu]
    rfl
  have handles := State.handlesAs_handleGood (s := jumped) (f := f) hr hl (ret_of_goodFrame hf) p true (f.number + 1)
  have chain := (jumped.withPortU p true).handleGood_chain f
  refine ⟨_, _, hx, rfl, by rw [State.expect_chain, chain]; rfl, by rw [State.expect_chain, chain]; rfl,
    by rw [State.expect_chain, chain]; rfl, by rw [State.expect_chain, chain]; rfl,
    by rw [State.expect_chain, chain]; rfl, ?_, ?_, fun hj => ?_, handles⟩
  · show ((jumped.withPortU p true).handleGood f).pins = ⟨false, b⟩
    rw [(State.handleGood_frame _ _).1]
    exact congrArg (Pins.mk · b) hr
  · exact State.handleGood_condition _ f
  · refine State.handleGood_latched (s := jumped.withPortU p true) hr (by simp) ?_
    exact s.jumping_latched b hj

/-- R5, R17: the good frame that brings Port U to LOCKED. -/
theorem State.goodOutbound_locking {s : State} {o : List Byte} {f : Frame} {b : Bool}
    (hu : s.chain.portU.state = .seeking) (hg : s.chain.lockG ≤ min 255 (s.chain.portU.good + 1)) :
    (s.setHoldPulled b).findSyncU.goodOutbound f o = State.expect (f.number + 1)
      (State.handleGood f ((s.setHoldPulled b).findSyncU.lockU ⟨.locked, min 255 (s.chain.portU.good + 1), 0⟩)) := by
  have hj : s.chain.portU.judgeGood s.chain.lockG = ⟨.locked, min 255 (s.chain.portU.good + 1), 0⟩ := by
    simp only [PortRx.judgeGood, hu]
    rw [if_pos hg]
  have hn : (s.setHoldPulled b).findSyncU.chain.portU.state ≠ .locked := by
    show s.chain.portU.state ≠ .locked
    simp [hu]
  refine (if_neg hn).trans ?_
  show (if (s.chain.portU.judgeGood s.chain.lockG).state = .locked then
      State.expect _ (((s.setHoldPulled b).findSyncU.lockU (s.chain.portU.judgeGood s.chain.lockG)).handleGood f)
    else _) = _
  rw [hj]
  rfl

/-- Settles O38: the port locks, and the frame is handled as any other (`State.handlesAs_handleGood`). -/
theorem lockingFrameEndsIsolation : Obligations.LockingFrameEndsIsolation := by
  intro s o f b hr hl hu hg hf condition turnaround locked
  let p : PortRx := ⟨.locked, min 255 (s.chain.portU.good + 1), 0⟩
  have hlock : (s.setHoldPulled b).findSyncU.lockU p = locked.withPortU p true := by
    have ht : turnaroundOf s.chain.leader .locked s.chain.portD.state = turnaround := by
      simp [turnaroundOf, turnaround]
    show ({ s.setHoldPulled b with
      chain := { s.chain with portU := p, syncU := true,
                              turnaround := turnaroundOf s.chain.leader .locked s.chain.portD.state }
      hold := _ } : State) = _
    rw [ht]
    rfl
  have hx : exec (.outboundFrameReceive o b) s =
      .next (((locked.withPortU p true).handleGood f).expect (f.number + 1)) := by
    rw [exec_outboundFrameReceive_good hr hl (by simp [hu]) hf, State.goodOutbound_locking hu hg, hlock]
  have handles := State.handlesAs_handleGood (s := locked) (f := f) hr hl (ret_of_goodFrame hf) p true (f.number + 1)
  have chain := (locked.withPortU p true).handleGood_chain f
  refine ⟨_, _, hx, by rw [State.expect_chain, chain]; rfl, by rw [State.expect_chain, chain]; rfl, rfl,
    by rw [State.expect_chain, chain]; rfl, ?_, by rw [State.expect_chain, chain]; rfl,
    by rw [State.expect_chain, chain]; rfl, State.handleGood_condition _ f, State.handleGood_link _ f, handles⟩
  show ((locked.withPortU p true).handleGood f).pins = ⟨false, b⟩
  rw [(State.handleGood_frame _ _).1]
  exact congrArg (Pins.mk · b) hr

end Sys2Proof.Machine
end

section
/-!
PROOFS. Settles O36: the leader originates the frame of its counter; a member originates nothing (R1, R2, R9, R10, R12,
R13, R18, R163, R166, R190).
-/

namespace Sys2Proof.Machine

/-- R1, R2: the row with RST_N high. -/
theorem exec_frameOriginate {s : State} (b : Bool) (hr : s.pins.rstLow = false) :
    exec (.frameOriginate b) s =
      .next (if s.chain.leader then (s.setHoldPulled b).originate else s.setHoldPulled b) :=
  congrArg _ (State.unlessHeld_high (s := s.setHoldPulled b) hr _)

/-- R2, R165: nothing stands in an originated frame, so nobody clashes in it. -/
theorem Frame.originate_clear (n : FrameNo) (a : Fin 16) :
    ((Frame.originate n).roll.get a).getLsbD 7 = false ∧ (Frame.originate n).segment.mark = 0 := by
  refine ⟨?_, rfl⟩
  rw [show (Frame.originate n).roll.get a = 0 from Bank.get_fill _ _]
  rfl

/-- Settles O36, from what a handled good frame leaves; in an originated frame nobody clashes. -/
theorem leaderOriginatesFrames : Obligations.LeaderOriginatesFrames := by
  refine ⟨fun s b hr hl => ?_, fun s b hr hl => ?_⟩
  · rw [exec_frameOriginate b hr, if_neg (by simp [hl])]
  let q := s.setHoldPulled b
  let f := Frame.originate s.chain.counter
  have hx : exec (.frameOriginate b) s = .next q.originate := by
    rw [exec_frameOriginate b hr, if_pos hl]
  have hchain : q.originate.chain = { s.chain.countHandled f.number with
      portU := s.chain.portU, syncU := s.chain.syncU, counter := s.chain.counter + 1, expected := s.chain.expected
      txU := if s.chain.turnaround = .chainEnd then none else s.chain.txU
      txD := some (q.handledFrame f).octets } := by
    have leader : q.chain.leader = true := hl
    have chain := q.handleGood_chain f
    rw [leader] at chain
    exact congrArg (fun c : Chain => { c with counter := s.chain.counter + 1 }) chain
  obtain ⟨blank, empty⟩ := Frame.originate_clear s.chain.counter s.chain.address
  have noClash : ¬((f.roll.get q.chain.address).getLsbD 7 = true ∨
      turnOf f.number = q.chain.address ∧ f.segment.mark ≠ 0) := by
    rintro (h | ⟨-, h⟩)
    · exact Bool.false_ne_true (blank.symm.trans h)
    · exact h empty
  obtain ⟨blocks, -, -, -, reads⟩ := State.handleGood_leaves (s := q) f hr
  obtain ⟨-, events, -, other, own⟩ := State.handleGood_turn (s := q) (f := f) hr
  obtain ⟨rollOthers, -, rollOwn⟩ := q.handledFrame_roll f
  obtain ⟨slotOthers, generator, held⟩ := State.handledFrame_slots (s := q) f hr
  obtain ⟨present, lead⟩ := State.handledFrame_roll_bits (s := q) f blank
  refine ⟨_, q.handledFrame f, hx, rfl, by rw [hchain], fun h => ?_, ?_, by rw [hchain], by rw [hchain], by rw [hchain],
    by rw [hchain], ?_, by rw [hchain]; rfl, by rw [hchain]; rfl,
    State.pacedTo_of_sameBlocks (u := q) f.number rfl blocks, reads, events noClash, rfl, rfl, rfl, rfl, fun a ha => ?_,
    present, lead.trans hl, ?_, fun x hs hg => ?_, held, generator, fun ho => other noClash ho, own noClash⟩
  · rw [hchain, h]
    exact ite_self _
  · show (q.handleGood f).pins = ⟨false, b⟩
    rw [(State.handleGood_frame _ _).1]
    exact congrArg (Pins.mk · b) hr
  · rw [hchain]
    exact Chain.handledTo_countHandled _ _ _ _ _ _ _ _
  · exact (rollOthers a ha).trans (Bank.get_fill _ _)
  · exact (rollOwn blank).2 (Bool.eq_false_iff.2 (mt State.paceFrame_clashes.1 noClash))
  · exact (slotOthers x hs hg).trans (Bank.get_fill _ _)

end Sys2Proof.Machine
end

section
/-!
PROOFS. Everything a lane command row can leave, for a law that reads neither the lane nor the Event Unit: what its
judgement leaves, said once per judgement (R162, R176, R177).
-/

namespace Sys2Proof.Machine

/-- `P` reads neither the Lane Controller nor the Event Unit. -/
def IgnoresLane (P : State → Prop) : Prop :=
  ∀ (s : State) (l : Lane) (e : Events), P s → P { s with lane := l, events := e }

section
variable {P : State → Prop} (hP : IgnoresLane P)
include hP

theorem State.offer_keeps {s : State} (hs : P s) (i : Fin 16) (k t : Byte) (p : List Byte) (b : Bool) :
    P (s.offer i k t p b) := by
  rcases s.offer_cases i k t p b with ⟨_, h⟩ | ⟨_, h⟩ <;> rw [h]
  · exact hP s _ s.events hs
  · exact hP s _ _ hs

/-- R177: the reply or the latch that a verdict is settled with moves neither what `P` reads. -/
theorem State.settle_keeps {e : Entry} {s : State} {v : Verdict} (hs : P s) (hv : v.Leaves P) : P (s.settle e v) := by
  cases v with
  | refused st =>
    rw [State.settle_refused]
    split
    · exact hP s s.lane _ hs
    · exact hP s _ s.events hs
  | taken t r =>
    cases r with
    | none => exact hv
    | some r =>
      simp only [State.settle]
      split
      · exact hv
      · exact hP t _ t.events hv

/-- R162: a lane command row keeps `P` when what its judgement takes does. -/
theorem State.laneCommand_keeps {s : State} (hs : P s) {kind : Byte} {query : Bool} {judge : Entry → State → Verdict}
    {t : Taking} (hj : ∀ e u, P u → (judge e u).Leaves P) : P (s.laneCommand kind query judge t) := by
  have carried : ∀ (u : State) (rest : List Entry) (e : Entry), P u → P ((u.popQueue rest).carryOut query judge e) := by
    intro u rest e hu
    have popped : P (u.popQueue rest) := hP u _ u.events hu
    rcases State.carryOut_cases query judge e (u.popQueue rest) with ⟨_, _, h⟩ | ⟨_, h⟩ <;> rw [h]
    · exact hP _ (u.popQueue rest).lane _ popped
    · exact State.settle_keeps hP popped (hj _ _ popped)
  rcases s.laneCommand_cases kind query judge t with h | ⟨m, _, h⟩ | ⟨e, rest, _, _, _, _, h⟩ | ⟨m, _, _, h⟩ <;> rw [h]
  · exact hs
  · exact State.offer_keeps hP hs ..
  · exact carried _ _ _ hs
  · exact carried _ _ _ (State.offer_keeps hP hs ..)

/-- R176: the same behind the condition and length tests. -/
theorem State.laneCommand_judged_keeps {s : State} (hs : P s) {kind : Byte} {query inQuiet : Bool} {n : Nat}
    {judge : List Byte → State → Verdict} {t : Taking} (hj : ∀ p u, P u → (judge p u).Leaves P) :
    P (s.laneCommand kind query (judged inQuiet n judge) t) :=
  State.laneCommand_keeps hP hs fun e u hu => judged_leaves (hj e.params u hu)

end

/-! ## What each judgement leaves -/

section
variable {P : State → Prop} {p : List Byte} {s : State}

theorem judgePickupSet_leaves (h : ∀ i slot on o c hang fl a r,
      P { s with pickups := s.pickups.modify i (Pickup.configure slot on o c hang fl a r) }) :
    (judgePickupSet p s).Leaves P := by
  unfold judgePickupSet
  split
  · exact h ..
  · trivial

theorem judgeFeedSet_leaves (h : ∀ f slot trim,
      P { s with level := { s.level with feeds := s.level.feeds.modify f (Feed.configure slot trim) } }) :
    (judgeFeedSet p s).Leaves P := by
  unfold judgeFeedSet
  split
  · split
    · trivial
    · exact h ..
  · trivial

theorem judgePatternSet_leaves (h : ∀ q, P { s with pattern := s.pattern.configure q }) :
    (judgePatternSet p s).Leaves P := by
  unfold judgePatternSet
  split
  · split
    · trivial
    · exact h _
  · trivial

theorem judgePatternRead_leaves (hs : P s) (h : P { s with events := { s.events with patWords := 0, patBits := 0 } }) :
    (judgePatternRead p s).Leaves P := by
  unfold judgePatternRead
  split
  · exact h
  · exact hs

theorem judgeCoreShape_leaves (h : ∀ c lengths, P (s.shapeCore c lengths)) : (judgeCoreShape p s).Leaves P := by
  unfold judgeCoreShape
  split
  · trivial
  · dsimp only
    split
    · trivial
    · split
      · trivial
      · exact h ..

theorem judgeTapWrite_leaves (h : ∀ i first records, P (s.putTaps i first records)) :
    (judgeTapWrite p s).Leaves P := by
  unfold judgeTapWrite
  dsimp only
  split
  · trivial
  · refine onUnlocked_leaves fun i => ?_
    split
    · trivial
    · exact h ..

/-- R107: a check taken ends at once on an empty scene, or starts. -/
theorem judgeSceneCheck_leaves {e : Entry}
    (passes : ∀ i, P { s with scenes := s.scenes.modify i fun sc => { sc with state := .ready, result := .passed } })
    (starts : ∀ i c, P { s with check := c, scenes := s.scenes.modify i fun sc => { sc with state := .checking } }) :
    (judgeSceneCheck e p s).Leaves P := by
  refine onUnlocked_leaves fun i => ?_
  split
  · trivial
  · split
    · trivial
    · unfold startCheck
      split
      · exact passes i
      · exact starts i _

theorem judgeCue_leaves (hs : P s) (h : ∀ i x b, P (s.takeCue i x b)) : (judgeCue p s).Leaves P := by
  unfold judgeCue
  split
  · trivial
  · split
    · trivial
    · trivial
    · trivial
    · exact hs
    · exact h ..
    · exact h ..
    · exact h ..

/-! The queries of one thing answer, or are refused for its number, and change nothing (R177). -/

theorem judgePickupRead_leaves (hs : P s) : (judgePickupRead p s).Leaves P := by
  unfold judgePickupRead
  split
  · exact hs
  · trivial

theorem judgeFeedRead_leaves (hs : P s) : (judgeFeedRead p s).Leaves P := by
  unfold judgeFeedRead
  split
  · exact hs
  · trivial

theorem judgeCoreRead_leaves (hs : P s) : (judgeCoreRead p s).Leaves P := by
  unfold judgeCoreRead
  split
  · exact hs
  · trivial

theorem judgeSceneRead_leaves (hs : P s) : (judgeSceneRead p s).Leaves P := by
  unfold judgeSceneRead
  split
  · exact hs
  · trivial

theorem judgeTapRead_leaves (hs : P s) : (judgeTapRead p s).Leaves P := by
  unfold judgeTapRead
  split
  · exact hs
  · trivial

theorem judgeGuardRead_leaves (hs : P s) : (judgeGuardRead p s).Leaves P := by
  unfold judgeGuardRead
  split
  · exact hs
  · trivial

end

end Sys2Proof.Machine
end

section
/-!
PROOFS. A law over the codes, the gates, the guards and the hold state (`State.unitView`) is kept by every command when
it is kept by the few operations that move what it reads: `KeptByUnits` names them.
-/

namespace Sys2Proof.Machine

/-- The Level Unit, the pickups, the guards, the running peaks and the Hold Controller. -/
def State.unitView (s : State) : Level × Bank 48 Pickup × Bank 32 Guard × Bank 32 Nat × Hold :=
  (s.level, s.pickups, s.guards, s.taps.peaks, s.hold)

theorem State.unitView_eq_iff {s t : State} : t.unitView = s.unitView ↔
    t.level = s.level ∧ t.pickups = s.pickups ∧ t.guards = s.guards ∧ t.taps.peaks = s.taps.peaks ∧
      t.hold = s.hold := by
  simp [State.unitView]

/-- `P` reads the units alone, holds after power-on, and is kept by a computation, by the loss and the return of the
upstream side, by QUIET, by the commands that set a level, a gate, a guard or the hold source set, and by the timed
events of a gate and of a guard. -/
structure KeptByUnits (P : State → Prop) : Prop where
  reads : ∀ {s t : State}, P s → t.unitView = s.unitView → P t
  powerOn : ∀ lead a, P (State.powerOn lead a)
  compute : ∀ {s : State} (k : FrameNo), s.hold.condition = .running → P s → P (s.compute k)
  isolate : ∀ {s : State}, P s → P s.isolate
  lockU : ∀ {s : State} (p : PortRx), P s → P (s.lockU p)
  enterQuiet : ∀ {s : State}, P s → P s.enterQuiet
  setPickup : ∀ {s : State} i slot on o c hang fl a r, P s →
    P { s with pickups := s.pickups.modify i (Pickup.configure slot on o c hang fl a r) }
  setFeed : ∀ {s : State} f slot trim, P s →
    P { s with level := { s.level with feeds := s.level.feeds.modify f (Feed.configure slot trim) } }
  aimGroups : ∀ {s : State} mask target rate, P s → P { s with level := s.level.aimGroups mask target rate }
  setGuards : ∀ {s : State} mask p, P s → P (s.setGuards mask (guardParams p))
  addMessage : ∀ {s : State}, P s → P { s with hold := s.hold.addMessage }
  resume : ∀ {s : State}, P s → P { s with hold := s.hold.resume }
  hangExpire : ∀ {s : State} i, P s → P { s with pickups := s.pickups.modify i Pickup.hangExpire }
  guardEvent : ∀ {s : State} f, P s →
    P { s with guards := s.guards.modify f fun g =>
      if g.enable = true ∧ g.state = .cut ∧ g.timer ≤ 1 then g.holdExpired else g } ∧
    P { s with guards := s.guards.modify f fun g =>
      if g.enable = true ∧ g.state = .recover ∧ g.count ≤ 1 then g.recoveryStep else g }

/-! ## What leaves the units as they were -/

@[simp] theorem State.fire_peaks (k : FrameNo) (s : State) : (s.fire k).taps.peaks = s.taps.peaks := by
  unfold State.fire State.fireTarget
  dsimp only
  split
  · split <;> rfl
  · rfl

theorem State.unitView_setPortD (p : PortRx) (s : State) : (s.setPortD p).unitView = s.unitView := by
  simp [State.unitView]

theorem State.unitView_goodReturn (f : Frame) (o : List Byte) (s : State) :
    (s.goodReturn f o).unitView = s.unitView := by
  simp [State.unitView, State.goodReturn]

theorem State.unitView_badReturn (o : Option (List Byte)) (s : State) : (s.badReturn o).unitView = s.unitView := by
  simp [State.unitView, State.badReturn]

/-- R155: a node reset leaves the units as power-on does, for a leader where the part handles frames. -/
theorem State.unitView_nodeReset (s : State) : s.nodeReset.unitView = (State.powerOn s.chain.handles 0).unitView := rfl

/-! ## The frame rows -/

/-- R154: a row guarded by RST_N keeps what its effect keeps. -/
theorem State.unlessHeld_keeps {P : State → Prop} {s t : State} (hs : P s) (ht : P t) : P (s.unlessHeld t) := by
  rcases s.unlessHeld_cases t with ⟨_, e⟩ | ⟨_, e⟩ <;> rw [e]
  · exact hs
  · exact ht

/-- R18: so does an event of a computation. -/
theorem State.whileComputing_keeps {P : State → Prop} {s t : State} (hs : P s) (ht : P t) : P (s.whileComputing t) := by
  rcases s.whileComputing_cases t with ⟨_, e⟩ | ⟨_, e⟩ <;> rw [e]
  · exact hs
  · exact ht

section
variable {P : State → Prop} (hP : KeptByUnits P)
include hP

theorem KeptByUnits.ignoresLane : IgnoresLane P := fun _ _ _ hs => hP.reads hs rfl

theorem KeptByUnits.expect {s : State} (hs : P s) (n : FrameNo) : P (s.expect n) := hP.reads hs rfl

theorem KeptByUnits.sendD {s : State} (hs : P s) (o : Option (List Byte)) : P (s.sendD o) := hP.reads hs rfl

/-- R18: a frame period moves the units by its computation alone. -/
theorem KeptByUnits.paceFrame {s : State} (hs : P s) (n : FrameNo) : P (s.paceFrame n) := by
  have counted : P (s.countFrame n) := hP.reads hs (by simp [State.unitView])
  unfold State.paceFrame
  split
  · rename_i hc
    have running : (s.countFrame n).hold.condition = .running := by
      simp only [State.computes, Bool.and_eq_true, beq_iff_eq] at hc
      exact hc.2
    exact hP.reads (hP.compute (n - 8) running counted) (by simp [State.unitView])
  · exact hP.reads counted (by simp [State.unitView])

theorem KeptByUnits.handleGood {s : State} (hs : P s) (f : Frame) : P (s.handleGood f) := by
  refine hP.reads (hP.paceFrame hs f.number) ?_
  rw [State.handleGood_eq]
  split <;> simp [State.unitView, State.sentFrame]

theorem KeptByUnits.handleBad {s : State} (hs : P s) (n : FrameNo) (o : Option (List Byte)) : P (s.handleBad n o) := by
  refine hP.reads (hP.paceFrame hs n) ?_
  unfold State.handleBad
  dsimp only
  split <;> simp [State.unitView]

/-- R15: Port U leaves LOCKED: the part becomes ISOLATED, or stays QUIET. -/
theorem KeptByUnits.unlockU {s : State} (hs : P s) (p : PortRx) : P (s.unlockU p) := by
  have lost : P (s.unlocking p).isolate := hP.isolate (hP.reads hs rfl)
  rw [State.unlockU_eq]
  exact hP.reads lost (by simp [State.unitView])

theorem KeptByUnits.goodOutbound {s : State} (hs : P s) (f : Frame) (o : List Byte) : P (s.goodOutbound f o) := by
  unfold State.goodOutbound
  dsimp only
  split
  · refine hP.expect (hP.handleGood (hP.reads hs ?_) f) _
    simp [State.unitView]
  · split
    · exact hP.expect (hP.handleGood (hP.lockU _ hs) f) _
    · refine hP.expect (hP.sendD ?_ _) _
      exact hP.reads hs rfl

theorem KeptByUnits.badOutbound {s : State} (hs : P s) (o : Option (List Byte)) : P (s.badOutbound o) := by
  have counted : P s.countBadU := hP.reads hs rfl
  unfold State.badOutbound
  dsimp only
  split
  · split
    · refine hP.expect (hP.handleBad ?_ _ o) _
      exact hP.reads hs rfl
    · exact hP.sendD (hP.unlockU counted _) o
  · refine hP.sendD ?_ o
    exact hP.reads hs rfl

theorem KeptByUnits.loseU {s : State} (hs : P s) : P s.loseU := by
  unfold State.loseU
  split
  · exact hs
  · split
    · exact hs
    · exact hP.reads hs rfl
    · exact hP.unlockU hs _

theorem KeptByUnits.loseD {s : State} (hs : P s) : P s.loseD := by
  unfold State.loseD
  split
  · exact hs
  · exact hP.reads hs (s.unitView_setPortD _)
  · exact hP.reads hs (s.unitView_setPortD _)

theorem KeptByUnits.nodeReset (s : State) : P s.nodeReset := hP.reads (hP.powerOn _ _) s.unitView_nodeReset

/-! ## Every command -/

/-- A law that the operations of `KeptByUnits` keep is kept by every row of the pins, the lines and the frames. -/
theorem KeptByUnits.frameRows {c : Instr} {s t : State} (hs : P s) (hm : movesView c = true)
    (he : exec c s = .next t) : P t := by
  cases c with
  | powerOnReset lead a =>
    cases he
    exact hP.reads (hP.powerOn lead a) rfl
  | powerOnResetHeld =>
    cases he
    exact hP.reads hs rfl
  | lineActivityAppears p =>
    cases he
    refine State.unlessHeld_keeps hs ?_
    cases p with
    | U =>
      dsimp only
      split
      · exact hs
      · exact hP.reads hs rfl
    | D => exact hP.reads hs rfl
  | lineActivityLost p =>
    cases he
    refine State.unlessHeld_keeps hs ?_
    cases p with
    | U => exact hP.loseU hs
    | D => exact hP.loseD hs
  | frameOriginate b =>
    cases he
    have pulled : P (s.setHoldPulled b) := hP.reads hs rfl
    refine State.unlessHeld_keeps pulled ?_
    split
    · exact hP.reads (hP.handleGood pulled _) rfl
    · exact pulled
  | outboundFrameReceive o b =>
    cases he
    have pulled : P (s.setHoldPulled b) := hP.reads hs rfl
    refine State.unlessHeld_keeps pulled ?_
    split
    · exact pulled
    · split
      · exact hP.goodOutbound (s := (s.setHoldPulled b).findSyncU) (hP.reads pulled rfl) _ _
      · exact hP.badOutbound (s := (s.setHoldPulled b).findSyncU) (hP.reads pulled rfl) _
  | syncMissingPeriod p b =>
    cases he
    have pulled : P (s.setHoldPulled b) := hP.reads hs rfl
    refine State.unlessHeld_keeps pulled ?_
    cases p with
    | U =>
      dsimp only
      split
      · exact pulled
      · exact hP.badOutbound pulled _
    | D =>
      dsimp only
      split
      · exact hP.reads pulled (State.unitView_badReturn _ _)
      · exact pulled
  | returnFrameReceive o =>
    cases he
    refine State.unlessHeld_keeps hs ?_
    split
    · exact hs
    · split
      · exact hP.reads hs (State.unitView_goodReturn _ _ s.findSyncD)
      · exact hP.reads hs (State.unitView_badReturn _ s.findSyncD)
  | discardMarkExpire =>
    cases he
    refine State.unlessHeld_keeps hs ?_
    split
    · exact hP.reads hs rfl
    · exact hs
  | nodeReset t =>
    cases he
    exact State.laneCommand_keeps hP.ignoresLane hs fun _ u _ => hP.nodeReset u
  | quiet t =>
    cases he
    exact State.laneCommand_judged_keeps hP.ignoresLane hs fun _ _ hu => hP.enterQuiet hu
  | wake t =>
    cases he
    refine State.laneCommand_keeps hP.ignoresLane hs fun _ u hu => ?_
    show P u.wake
    unfold State.wake
    split
    · exact hP.nodeReset u
    · exact hu
  | chainSet t =>
    cases he
    exact State.laneCommand_judged_keeps hP.ignoresLane hs fun _ _ hu => hP.reads hu rfl
  | _ => cases hm

/-- The same for the events inside the blocks and the other lane commands. -/
theorem KeptByUnits.otherRows {c : Instr} {s t : State} (hs : P s) (hm : movesView c = false)
    (he : exec c s = .next t) : P t := by
  have lane := hP.ignoresLane
  cases c with
  | powerOnReset _ _ | powerOnResetHeld | lineActivityAppears _ | lineActivityLost _ | frameOriginate _
  | outboundFrameReceive _ _ | syncMissingPeriod _ _ | returnFrameReceive _ | discardMarkExpire
  | nodeReset _ | quiet _ | wake _ | chainSet _ => cases hm
  | coreShaped c =>
    cases he
    exact State.whileComputing_keeps hs (hP.reads hs rfl)
  | checkPass =>
    cases he
    refine State.whileComputing_keeps hs ?_
    split
    · exact hs
    · split
      · exact hP.reads hs (by simp [State.unitView])
      · exact hs
  | checkFail =>
    cases he
    refine State.whileComputing_keeps hs ?_
    split
    · exact hs
    · split
      · exact hP.reads hs (by simp [State.unitView])
      · exact hs
      · exact hs
  | cueFire k =>
    cases he
    refine State.whileComputing_keeps hs ?_
    split
    · exact hP.reads hs (by simp [State.unitView])
    · exact hs
  | gateHangExpire i =>
    cases he
    exact State.whileComputing_keeps hs (hP.hangExpire i hs)
  | crossfadeEnd =>
    cases he
    refine State.whileComputing_keeps hs ?_
    split
    · exact hP.reads hs rfl
    · exact hs
  | quietHoldExpire f =>
    cases he
    exact State.whileComputing_keeps hs (hP.guardEvent f hs).1
  | recoveryStep f =>
    cases he
    exact State.whileComputing_keeps hs (hP.guardEvent f hs).2
  | badKindCommand k t =>
    cases he
    split
    · exact State.laneCommand_keeps lane hs fun _ _ _ => trivial
    · exact hs
  | identify t => cases he; exact State.laneCommand_judged_keeps lane hs fun _ _ hu => hu
  | eventsRead t => cases he; exact State.laneCommand_judged_keeps lane hs fun _ _ hu => hu
  | chainRead t => cases he; exact State.laneCommand_judged_keeps lane hs fun _ _ hu => hu
  | groupRead t => cases he; exact State.laneCommand_judged_keeps lane hs fun _ _ hu => hu
  | cueRead t => cases he; exact State.laneCommand_judged_keeps lane hs fun _ _ hu => hu
  | pickupRead t => cases he; exact State.laneCommand_judged_keeps lane hs fun _ _ hu => judgePickupRead_leaves hu
  | feedRead t => cases he; exact State.laneCommand_judged_keeps lane hs fun _ _ hu => judgeFeedRead_leaves hu
  | coreRead t => cases he; exact State.laneCommand_judged_keeps lane hs fun _ _ hu => judgeCoreRead_leaves hu
  | sceneRead t => cases he; exact State.laneCommand_judged_keeps lane hs fun _ _ hu => judgeSceneRead_leaves hu
  | tapRead t => cases he; exact State.laneCommand_judged_keeps lane hs fun _ _ hu => judgeTapRead_leaves hu
  | guardRead t => cases he; exact State.laneCommand_judged_keeps lane hs fun _ _ hu => judgeGuardRead_leaves hu
  | eventsClear t => cases he; exact State.laneCommand_judged_keeps lane hs fun _ _ hu => hP.reads hu rfl
  | eventsMask t => cases he; exact State.laneCommand_judged_keeps lane hs fun _ _ hu => hP.reads hu rfl
  | patternSet t =>
    cases he
    exact State.laneCommand_judged_keeps lane hs fun _ _ hu => judgePatternSet_leaves fun _ => hP.reads hu rfl
  | patternRead t =>
    cases he
    exact State.laneCommand_judged_keeps lane hs fun _ _ hu => judgePatternRead_leaves hu (hP.reads hu rfl)
  | pickupSet t =>
    cases he
    exact State.laneCommand_judged_keeps lane hs fun _ _ hu => judgePickupSet_leaves
      fun i slot on o c hang fl a r => hP.setPickup i slot on o c hang fl a r hu
  | feedSet t =>
    cases he
    exact State.laneCommand_judged_keeps lane hs fun _ _ hu => judgeFeedSet_leaves
      fun f slot trim => hP.setFeed f slot trim hu
  | groupSet t =>
    cases he
    exact State.laneCommand_judged_keeps lane hs fun _ _ hu => hP.aimGroups _ _ _ hu
  | coreShape t =>
    cases he
    exact State.laneCommand_judged_keeps lane hs fun _ _ hu => judgeCoreShape_leaves
      fun _ _ => hP.reads hu (by simp [State.unitView])
  | sceneHead t =>
    cases he
    exact State.laneCommand_judged_keeps lane hs fun _ _ hu => onUnlocked_leaves
      fun _ => hP.reads hu (by simp [State.unitView])
  | tapWrite t =>
    cases he
    refine State.laneCommand_keeps lane hs fun _ _ hu => ?_
    split
    · trivial
    · exact judgeTapWrite_leaves fun _ _ _ => hP.reads hu (by simp [State.unitView])
  | sceneClear t =>
    cases he
    exact State.laneCommand_judged_keeps lane hs fun _ _ hu => onUnlocked_leaves
      fun _ => hP.reads hu (by simp [State.unitView])
  | sceneCheck t =>
    cases he
    exact State.laneCommand_keeps lane hs fun _ _ hu => judged_leaves
      (judgeSceneCheck_leaves (fun _ => hP.reads hu rfl) fun _ _ => hP.reads hu rfl)
  | cue t =>
    cases he
    exact State.laneCommand_judged_keeps lane hs fun _ _ hu => judgeCue_leaves hu
      fun _ _ _ => hP.reads hu (by simp [State.unitView])
  | cueCancel t =>
    cases he
    exact State.laneCommand_judged_keeps lane hs fun _ _ hu => hP.reads hu (by simp [State.unitView])
  | guardSet t =>
    cases he
    exact State.laneCommand_judged_keeps lane hs fun p _ hu => hP.setGuards _ p hu
  | hold t =>
    cases he
    exact State.laneCommand_judged_keeps lane hs fun _ _ hu => hP.addMessage hu
  | resume t =>
    cases he
    exact State.laneCommand_judged_keeps lane hs fun _ _ hu => hP.resume hu

/-- Every step keeps a law that the operations of `KeptByUnits` keep. -/
theorem KeptByUnits.step {s t : State} (hs : P s) (h : step s = .next t) : P t := by
  refine step_keeps_of_exec_keeps (P := P) (fun _ _ hu => hP.reads hu rfl) (fun c u v hu hc => ?_) hs h
  cases hm : movesView c with
  | true => exact hP.frameRows hu hm hc
  | false => exact hP.otherRows hu hm hc

end

end Sys2Proof.Machine
end

section
/-!
PROOFS. Settles O8: every step keeps the codes, gates and guards in their ranges (R20, R24, R38, R51, R132). One lemma
per operation on a record, then the state's operations.
-/

namespace Sys2Proof.Machine

/-! ## Groups (R24 to R26) -/

theorem Group.Lawful.tick {g : Group} (h : g.Lawful) : g.tick.Lawful := by
  obtain ⟨hc, ht, hr, _⟩ := h
  exact ⟨ramp_le g.rate hc ht, ht, hr, rfl⟩

theorem Group.Lawful.aim {g : Group} (h : g.Lawful) (target rate : Nat) :
    (g.aim (clampCode target) (min 255 rate)).Lawful := by
  obtain ⟨hc, _, _, _⟩ := h
  exact ⟨hc, clampCode_le target, Nat.min_le_left .., rfl⟩

/-! ## Pickups (R38, R47 to R51, R54) -/

/-- R48, R49: the gate moved is HANGING with a count, or stands elsewhere with none. -/
theorem Pickup.moveGate_cases (p : Pickup) :
    (∃ gate ≠ .hanging, p.moveGate = { p with gate := gate, hangCount := 0 }) ∨
    (∃ n, 0 < n ∧ (n = p.hang ∨ n = p.hangCount - 1) ∧ p.moveGate = { p with gate := .hanging, hangCount := n }) := by
  unfold Pickup.moveGate
  cases p.gate with
  | closed =>
    dsimp only
    split
    · exact .inl ⟨.opened, nofun, rfl⟩
    · exact .inl ⟨.closed, nofun, rfl⟩
  | opened =>
    dsimp only
    split
    · exact .inl ⟨.opened, nofun, rfl⟩
    · split
      · exact .inr ⟨p.hang, ‹_›, .inl rfl, rfl⟩
      · exact .inl ⟨.closed, nofun, rfl⟩
  | hanging =>
    dsimp only
    split
    · exact .inl ⟨.opened, nofun, rfl⟩
    · split
      · exact .inl ⟨.closed, nofun, rfl⟩
      · exact .inr ⟨p.hangCount - 1, by omega, .inr rfl, rfl⟩

theorem Pickup.Lawful.moveGate {p : Pickup} (h : p.Lawful) (he : p.enable = true) : p.moveGate.Lawful := by
  obtain ⟨ho, hc, hf, hl, hh, ha, hr, hn, hp, ht, _, _⟩ := h
  have on : p.enable ≠ false := by simp [he]
  rcases p.moveGate_cases with ⟨gate, hg, e⟩ | ⟨n, h0, hle, e⟩ <;> rw [e]
  · exact ⟨ho, hc, hf, hl, hh, ha, hr, Nat.zero_le _, hp, ht, by simp [hg], fun k => absurd k on⟩
  · exact ⟨ho, hc, hf, hl, hh, ha, hr, by dsimp only; omega, hp, ht, by simpa using h0, fun k => absurd k on⟩

/-- R50: the level moves toward 0 or toward the floor code. -/
theorem Pickup.moveLevel_le {p : Pickup} (hl : p.level ≤ 1024) (hf : p.floorCode ≤ 1024) :
    p.moveLevel.level ≤ 1024 := by
  unfold Pickup.moveLevel
  split
  · exact ramp_le _ hl hf
  · exact ramp_le _ hl (Nat.zero_le _)
  · exact ramp_le _ hl (Nat.zero_le _)

theorem Pickup.Lawful.moveLevel {p : Pickup} (h : p.Lawful) (he : p.enable = true) : p.moveLevel.Lawful := by
  obtain ⟨ho, hc, hf, hl, hh, ha, hr, hn, hp, ht, hg, _⟩ := h
  have on : p.enable ≠ false := by simp [he]
  rw [Pickup.moveLevel_frame]
  exact ⟨ho, hc, hf, Pickup.moveLevel_le hl hf, hh, ha, hr, hn, hp, ht, hg, fun k => absurd k on⟩

theorem Pickup.Lawful.takePeak {p : Pickup} (h : p.Lawful) : p.takePeak.Lawful := by
  obtain ⟨ho, hc, hf, hl, hh, ha, hr, hn, hp, _, hg, hd⟩ := h
  exact ⟨ho, hc, hf, hl, hh, ha, hr, hn, Nat.zero_le _, hp, hg, hd⟩

theorem Pickup.Lawful.tick {p : Pickup} (h : p.Lawful) : p.tick.Lawful := by
  unfold Pickup.tick
  split
  · rename_i he
    have moved : p.takePeak.moveGate.enable = true := by rw [Pickup.moveGate_frame]; exact he
    exact (h.takePeak.moveGate he).moveLevel moved
  · exact h.takePeak

/-- R47: a sample's magnitude is at most 2^23. -/
theorem magnitude_le (x : Sample) : magnitude x ≤ 8388608 := by
  have hi := BitVec.toInt_lt (x := x)
  have lo := BitVec.le_toInt (x := x)
  unfold magnitude
  omega

theorem Pickup.Lawful.record {p : Pickup} (h : p.Lawful) (x : Sample) : (p.record x).Lawful := by
  obtain ⟨ho, hc, hf, hl, hh, ha, hr, hn, hp, ht, hg, hd⟩ := h
  exact ⟨ho, hc, hf, hl, hh, ha, hr, hn, Nat.max_le.2 ⟨hp, magnitude_le x⟩, ht, hg, hd⟩

theorem Pickup.Lawful.silence {p : Pickup} (h : p.Lawful) : p.silence.Lawful := by
  obtain ⟨ho, hc, hf, hl, hh, ha, hr, hn, _, ht, hg, hd⟩ := h
  exact ⟨ho, hc, hf, hl, hh, ha, hr, hn, Nat.zero_le _, ht, hg, hd⟩

/-- R39, R51: a record set stands clamped; its gate is kept when it was and stays on, and else open at level 0. -/
theorem Pickup.Lawful.configure {p : Pickup} (h : p.Lawful) (slot : Option (Fin 128)) (on : Bool)
    (o c hang fl a r : Nat) : (p.configure slot on o c hang fl a r).Lawful := by
  obtain ⟨_, _, _, hl, _, _, _, hn, hp, ht, hg, _⟩ := h
  have ho := clampCode_le o
  have hc := clampCode_le c
  unfold Pickup.configure
  by_cases kept : (on && p.enable) = true
  · simp only [kept, if_true]
    refine ⟨Nat.le_max_left .., Nat.max_le.2 ⟨ho, hc⟩, clampCode_le fl, hl, Nat.min_le_left .., Nat.min_le_left ..,
      Nat.min_le_left .., hn, hp, ht, hg, fun k => ?_⟩
    have off : on = false := k
    simp [off] at kept
  · simp only [kept]
    exact ⟨Nat.le_max_left .., Nat.max_le.2 ⟨ho, hc⟩, clampCode_le fl, Nat.zero_le _, Nat.min_le_left ..,
      Nat.min_le_left .., Nat.min_le_left .., Nat.zero_le _, hp, ht, by simp, fun _ => ⟨rfl, rfl⟩⟩

theorem Pickup.Lawful.hangExpire {p : Pickup} (h : p.Lawful) : p.hangExpire.Lawful := by
  unfold Pickup.hangExpire
  split
  · rename_i he
    obtain ⟨ho, hc, hf, hl, hh, ha, hr, _, hp, ht, _, _⟩ := h
    refine Pickup.Lawful.moveLevel ⟨ho, hc, hf, hl, hh, ha, hr, Nat.zero_le _, hp, ht, by simp, ?_⟩ he.1
    intro k
    simp [he.1] at k
  · exact h

/-! ## Guards (R132 to R140, R143) -/

/-- R132: the parameters of a guard record in their ranges. -/
def Guard.InRange (g : Guard) : Prop :=
  g.floorCode ≤ 1024 ∧ 2 ≤ g.rise ∧ g.rise ≤ 64 ∧ 8 ≤ g.cutStep ∧ g.cutStep ≤ 128 ∧ g.limit ≤ 512 ∧
  100 ≤ g.quietHold ∧ g.quietHold ≤ 65535 ∧ 1 ≤ g.interval ∧ g.interval ≤ 255

/-- R132: the working items of a guard record in their ranges, with no trim in WATCH, and WATCH while disabled. -/
def Guard.Works (g : Guard) : Prop :=
  g.trim ≤ g.limit ∧ g.run ≤ 64 ∧ g.prevPeak ≤ 8388608 ∧ g.settle ≤ 2 ∧ g.timer ≤ 65535 ∧ g.count ≤ 255 ∧
  (g.state = .watch → g.trim = 0) ∧ (g.enable = false → g.state = .watch)

theorem Guard.lawful_iff (g : Guard) : g.Lawful ↔ g.InRange ∧ g.Works := by
  simp only [Guard.Lawful, Guard.InRange, Guard.Works, and_assoc]

theorem Guard.Works.recoveryStep {g : Guard} (h : g.Works) (hi : g.interval ≤ 255) (hs : g.state = .recover) :
    g.recoveryStep.Works := by
  obtain ⟨ht, hr, hp, hs2, hm, _, _, he⟩ := h
  unfold Guard.recoveryStep
  split
  · exact ⟨Nat.zero_le _, hr, hp, hs2, hm, Nat.zero_le _, fun _ => rfl, fun _ => rfl⟩
  · exact ⟨(Nat.sub_le ..).trans ht, hr, hp, hs2, hm, hi, by simp [hs], he⟩

theorem Guard.Works.holdExpired {g : Guard} (h : g.Works) (hi : g.interval ≤ 255) (on : g.enable = true) :
    g.holdExpired.Works := by
  obtain ⟨ht, hr, hp, hs2, _, _, _, _⟩ := h
  unfold Guard.holdExpired
  split
  · exact ⟨ht, hr, hp, hs2, Nat.zero_le _, Nat.zero_le _, fun _ => ‹_›, fun _ => rfl⟩
  · exact ⟨ht, hr, hp, hs2, Nat.zero_le _, hi, nofun, by simp [on]⟩

/-- R135, R139, R140: the state moved at a tick without a cut. -/
theorem Guard.Works.moveState {g : Guard} (h : g.Works) (hi : g.interval ≤ 255) (on : g.enable = true) :
    g.moveState.Works := by
  obtain ⟨ht, hr, hp, hs2, hm, hc, hw, he⟩ := id h
  unfold Guard.moveState
  split
  · exact h
  · unfold Guard.cutTick
    split
    · exact h.holdExpired hi on
    · exact ⟨ht, hr, hp, hs2, (Nat.sub_le ..).trans hm, hc, hw, he⟩
  · rename_i hs
    unfold Guard.recoverTick
    split
    · exact h.recoveryStep hi hs
    · exact ⟨ht, hr, hp, hs2, hm, (Nat.sub_le ..).trans hc, hw, he⟩

/-- R138: a cut keeps the trim within the limit. -/
theorem Guard.Works.cut {g : Guard} (h : g.Works) (hq : g.quietHold ≤ 65535) (on : g.enable = true) : g.cut.Works := by
  obtain ⟨_, _, hp, hs2, _, hc, _, _⟩ := h
  exact ⟨Nat.min_le_left .., Nat.zero_le _, hp, hs2, hq, hc, nofun, by simp [Guard.cut, on]⟩

/-- R136, R137: the settle count and the rise run stay in their ranges. -/
theorem Guard.settleTick_le (moved : Bool) (g : Guard) : g.settleTick moved ≤ 2 := by
  unfold Guard.settleTick
  split <;> omega

theorem Guard.runTick_le (moved : Bool) (p : Nat) (g : Guard) : g.runTick moved p ≤ 64 := by
  unfold Guard.runTick
  split <;> omega

theorem Guard.Lawful.tick {g : Guard} (h : g.Lawful) (moved : Bool) {p : Nat} (hp : p ≤ 8388608) :
    (g.tick moved p).Lawful := by
  obtain ⟨range, works⟩ := (Guard.lawful_iff g).1 h
  refine (Guard.lawful_iff _).2 ⟨?_, ?_⟩
  · obtain ⟨_, h1, h2, h3, h4, h5, h6, _⟩ := Guard.tick_parameters moved p g
    simpa only [Guard.InRange, h1, h2, h3, h4, h5, h6] using range
  · obtain ⟨_, _, _, _, _, _, _, hq, _, hi⟩ := range
    unfold Guard.tick
    split
    · rename_i on
      obtain ⟨ht, _, hpp, _, hm, hc, hw, he⟩ := works
      have judged : ({ g with settle := g.settleTick moved, run := g.runTick moved p } : Guard).Works :=
        ⟨ht, g.runTick_le moved p, hpp, g.settleTick_le moved, hm, hc, hw, he⟩
      have last {a : Guard} (ha : a.Works) : ({ a with prevPeak := p } : Guard).Works := by
        obtain ⟨ht, hr, _, hs, hm, hc, hw, he⟩ := ha
        exact ⟨ht, hr, hp, hs, hm, hc, hw, he⟩
      dsimp only
      split
      · exact last (judged.cut hq on)
      · exact last (judged.moveState hi on)
    · exact works

/-- R133: the parameters of a GUARD_SET stand clamped. -/
theorem guardParams_inRange (p : List Byte) (g : Guard) :
    ({ g with
      floorCode := (guardParams p).floorCode, rise := (guardParams p).rise, cutStep := (guardParams p).cutStep
      limit := (guardParams p).limit, quietHold := (guardParams p).quietHold
      interval := (guardParams p).interval } : Guard).InRange := by
  obtain ⟨r1, r2⟩ := clamp_mem (lo := 2) (hi := 64) (by omega) (at8 p 7)
  obtain ⟨c1, c2⟩ := clamp_mem (lo := 8) (hi := 128) (by omega) (at8 p 8)
  obtain ⟨q1, q2⟩ := clamp_mem (lo := 100) (hi := 65535) (by omega) (at16 p 11)
  obtain ⟨i1, i2⟩ := clamp_mem (lo := 1) (hi := 255) (by omega) (at8 p 13)
  exact ⟨clampCode_le _, r1, r2, c1, c2, Nat.min_le_left .., q1, q2, i1, i2⟩

/-- R134: the working items under a new enable and a new limit: kept with the trim within the limit when the guard was
and stays on, and else in WATCH. -/
theorem Guard.Works.configure {g : Guard} (h : g.Works) (q : GuardParams) : (g.configure q).Works := by
  obtain ⟨ht, hr, hp, hs, hm, hc, hw, he⟩ := id h
  unfold Guard.configure
  dsimp only
  split
  · rename_i on
    have stays : q.enable ≠ false := by simp only [Bool.and_eq_true] at on; simp [on.2]
    unfold Guard.limitTo
    split
    · refine ⟨Nat.le_refl _, hr, hp, hs, hm, hc, fun k => ?_, fun k => absurd k stays⟩
      dsimp only at k ⊢
      split at k
      · rename_i lowered; exact lowered.2
      · have := hw k; omega
    · exact ⟨Nat.le_of_not_lt ‹_›, hr, hp, hs, hm, hc, hw, fun k => absurd k stays⟩
  · split
    · exact ⟨Nat.zero_le _, Nat.zero_le _, Nat.zero_le _, Nat.zero_le _, Nat.zero_le _, Nat.zero_le _, fun _ => rfl,
        fun _ => rfl⟩
    · rename_i off
      have watch : g.state = .watch := he (by simp only [Bool.or_eq_true, not_or, Bool.not_eq_true] at off; exact off.1)
      exact ⟨(hw watch).trans_le (Nat.zero_le _), hr, hp, hs, hm, hc, hw, fun _ => watch⟩

theorem Guard.Lawful.configure {g : Guard} (h : g.Lawful) (p : List Byte) :
    (g.configure (guardParams p)).Lawful :=
  (Guard.lawful_iff _).2 ⟨guardParams_inRange p (g.configure (guardParams p)),
    ((Guard.lawful_iff g).1 h).2.configure (guardParams p)⟩

theorem Guard.Lawful.isolate {g : Guard} (h : g.Lawful) : g.isolate.Lawful := by
  obtain ⟨range, ht, _, _, _, hm, hc, hw, he⟩ := (Guard.lawful_iff g).1 h
  unfold Guard.isolate
  split
  · exact (Guard.lawful_iff _).2 ⟨range, ht, Nat.zero_le _, Nat.zero_le _, Nat.zero_le _, hm, hc, hw, he⟩
  · exact h

/-- R139, R140: the timed events of a guard taken alone. -/
theorem Guard.Lawful.events {g : Guard} (h : g.Lawful) :
    (if g.enable = true ∧ g.state = .cut ∧ g.timer ≤ 1 then g.holdExpired else g).Lawful ∧
    (if g.enable = true ∧ g.state = .recover ∧ g.count ≤ 1 then g.recoveryStep else g).Lawful := by
  obtain ⟨range, works⟩ := (Guard.lawful_iff g).1 h
  obtain ⟨_, _, _, _, _, _, _, _, _, hi⟩ := id range
  constructor
  · split
    · rename_i hc
      refine (Guard.lawful_iff _).2 ⟨?_, works.holdExpired hi hc.1⟩
      rw [Guard.holdExpired_eq]
      exact range
    · exact h
  · split
    · rename_i hc
      refine (Guard.lawful_iff _).2 ⟨?_, works.recoveryStep hi hc.2.1⟩
      rw [Guard.recoveryStep_eq hc.2.1]
      exact range
    · exact h

/-! ## The state -/

/-- R35: the hold level at a tick. -/
theorem holdLevelTick_le (held : Bool) {level : Nat} (h : level ≤ 1024) : holdLevelTick held level ≤ 1024 := by
  unfold holdLevelTick
  split <;> omega

/-- R20: the codes of the Level Unit. -/
def Level.Lawful (l : Level) : Prop :=
  (∀ g, (l.groups.get g).Lawful) ∧ (∀ f, (l.feeds.get f).trim ≤ 1024 ∧ (l.feeds.get f).trimTarget ≤ 1024) ∧
  l.hold ≤ 1024

theorem State.codeLaw_iff (s : State) : s.CodeLaw ↔ s.level.Lawful ∧ (∀ i, (s.pickups.get i).Lawful) ∧
    (∀ f, (s.guards.get f).Lawful) ∧ ∀ f, s.taps.peaks.get f ≤ 8388608 := by
  simp only [State.CodeLaw, Level.Lawful, and_assoc]

theorem Level.Lawful.tick {l : Level} (h : l.Lawful) (held : Bool) : (l.tick held).Lawful := by
  obtain ⟨hg, hf, hh⟩ := h
  refine ⟨fun g => ?_, fun f => ?_, holdLevelTick_le held hh⟩
  · simpa [Level.tick] using (hg g).tick
  · simpa [Level.tick, Feed.tick] using ⟨ramp_le 16 (hf f).1 (hf f).2, (hf f).2⟩

/-- R23, R46, R73, R135: a computation keeps the codes. -/
theorem State.CodeLaw.compute {s : State} (h : s.CodeLaw) (k : FrameNo) : (s.compute k).CodeLaw := by
  obtain ⟨hl, hp, hg, hk⟩ := (State.codeLaw_iff s).1 h
  obtain ⟨bl, bp, bk⟩ := s.beginComputation_units k
  obtain ⟨tl, tp, _⟩ := s.compute_frame_samples k
  have level : (s.beginComputation k).level.Lawful := by
    rw [bl]
    split
    · exact hl.tick _
    · exact hl
  have pickups : ∀ i, ((s.beginComputation k).pickups.get i).Lawful := fun i => by
    rw [bp]
    split
    · rw [Bank.get_map]; exact (hp i).tick
    · exact hp i
  have peaks : ∀ f, ((s.beginComputation k).runSamples k).taps.peaks.get f ≤ 8388608 := fun f => by
    rw [State.runSamples_peaks, bk]
    exact Nat.max_le.2 ⟨hk f, magnitude_le _⟩
  have guards : ((s.beginComputation k).runSamples k).guards = s.guards := by simp
  refine (State.codeLaw_iff _).2 ⟨by rw [tl]; exact level, fun i => ?_, ?_⟩
  · rw [tp, ((s.beginComputation k).runSamples_pickups k i).1]
    exact (pickups i).record _
  · by_cases ht : k.toNat % 48 = 0
    · rw [s.compute_tick k ht]
      refine ⟨fun f => ?_, fun f => ?_⟩
      · rw [State.tickGuard_guards, guards]
        exact (hg f).tick _ (peaks f)
      · rw [State.tickGuard_peaks]
        exact Nat.zero_le _
    · rw [s.compute_between k ht]
      exact ⟨by rw [guards]; exact hg, peaks⟩

/-- R15, R54, R143: entry into ISOLATED keeps the codes. -/
theorem State.CodeLaw.isolate {s : State} (h : s.CodeLaw) : s.isolate.CodeLaw := by
  by_cases hc : s.hold.condition = .running
  · obtain ⟨⟨hg, hf, _⟩, hp, hu, _⟩ := (State.codeLaw_iff s).1 h
    obtain ⟨-, level, -, guards, -⟩ := State.isolate_running hc
    have pickups : s.isolate.pickups = s.pickups.map Pickup.silence := by simp [State.isolate, hc]
    have peaks : s.isolate.taps.peaks = Bank.fill 32 0 := by simp [State.isolate, hc]
    rw [State.codeLaw_iff, level, pickups, guards, peaks]
    refine ⟨⟨hg, hf, Nat.le_refl _⟩, fun i => ?_, fun f => ?_, fun f => ?_⟩
    · rw [Bank.get_map]; exact (hp i).silence
    · rw [Bank.get_map]; exact (hu f).isolate
    · rw [Bank.get_fill]; exact Nat.zero_le _
  · rw [State.isolate_other hc]
    exact h

/-- R36, R54, R151: entry into QUIET keeps the codes. -/
theorem State.CodeLaw.enterQuiet {s : State} (h : s.CodeLaw) : s.enterQuiet.CodeLaw := by
  obtain ⟨⟨hg, hf, _⟩, hp, hu, _⟩ := (State.codeLaw_iff s).1 h
  have level : s.enterQuiet.level = { s.level with hold := 1024 } := by simp [State.enterQuiet, State.holdAtOnce]
  have pickups : s.enterQuiet.pickups = s.pickups.map Pickup.silence := by simp [State.enterQuiet]
  have peaks : s.enterQuiet.taps.peaks = Bank.fill 32 0 := by simp [State.enterQuiet]
  have guards : s.enterQuiet.guards = s.guards := by simp
  rw [State.codeLaw_iff, level, pickups, guards, peaks]
  refine ⟨⟨hg, hf, Nat.le_refl _⟩, fun i => ?_, hu, fun f => ?_⟩
  · rw [Bank.get_map]; exact (hp i).silence
  · rw [Bank.get_fill]; exact Nat.zero_le _

/-- R20: the codes are kept by every operation that moves what their law reads. -/
theorem keptByUnits_codeLaw : KeptByUnits State.CodeLaw where
  reads hs hv := by
    obtain ⟨hl, hp, hg, hk, _⟩ := State.unitView_eq_iff.1 hv
    rw [State.codeLaw_iff] at hs ⊢
    rwa [hl, hp, hg, hk]
  powerOn := State.powerOn_codeLaw
  compute k _ hs := hs.compute k
  isolate hs := hs.isolate
  lockU _ hs := hs
  enterQuiet hs := hs.enterQuiet
  setPickup i slot on o c hang fl a r hs := by
    obtain ⟨hl, hp, rest⟩ := (State.codeLaw_iff _).1 hs
    exact (State.codeLaw_iff _).2 ⟨hl, Bank.forall_modify (P := fun _ => Pickup.Lawful) hp
      ((hp i).configure slot on o c hang fl a r), rest⟩
  setFeed f slot trim hs := by
    obtain ⟨⟨hg, hf, hh⟩, rest⟩ := (State.codeLaw_iff _).1 hs
    exact (State.codeLaw_iff _).2 ⟨⟨hg, Bank.forall_modify (P := fun _ (f : Feed) => f.trim ≤ 1024 ∧ f.trimTarget ≤ 1024)
      hf ⟨(hf f).1, clampCode_le trim⟩, hh⟩, rest⟩
  aimGroups mask target rate hs := by
    obtain ⟨⟨hg, hf, hh⟩, rest⟩ := (State.codeLaw_iff _).1 hs
    refine (State.codeLaw_iff _).2 ⟨⟨fun g => ?_, hf, hh⟩, rest⟩
    simp only [Level.aimGroups, Bank.get_mapIdx]
    split
    · exact (hg g).aim target rate
    · exact hg g
  setGuards mask p hs := by
    obtain ⟨hl, hp, hg, hk⟩ := (State.codeLaw_iff _).1 hs
    refine (State.codeLaw_iff _).2 ⟨by simpa using hl, by simpa using hp, fun f => ?_, by simpa using hk⟩
    simp only [State.setGuards, State.latchIf_frame, Bank.get_mapIdx]
    split
    · exact (hg f).configure p
    · exact hg f
  addMessage hs := hs
  resume hs := hs
  hangExpire i hs := by
    obtain ⟨hl, hp, rest⟩ := (State.codeLaw_iff _).1 hs
    exact (State.codeLaw_iff _).2 ⟨hl, Bank.forall_modify (P := fun _ => Pickup.Lawful) hp (hp i).hangExpire, rest⟩
  guardEvent f hs := by
    obtain ⟨hl, hp, hg, hk⟩ := (State.codeLaw_iff _).1 hs
    obtain ⟨expired, stepped⟩ := (hg f).events
    exact ⟨(State.codeLaw_iff _).2 ⟨hl, hp, Bank.forall_modify (P := fun _ => Guard.Lawful) hg expired, hk⟩,
      (State.codeLaw_iff _).2 ⟨hl, hp, Bank.forall_modify (P := fun _ => Guard.Lawful) hg stepped, hk⟩⟩

/-- Settles O8: the codes' law is kept by the operations of `KeptByUnits`, and so by every step. -/
theorem stepKeepsCodeLaw : Obligations.StepKeepsCodeLaw := fun _ _ hs h => keptByUnits_codeLaw.step hs h

end Sys2Proof.Machine
end

section
/-!
PROOFS. Settles O9: every step keeps the tie of hold state and hold level, and a part outside RUNNING stays HELD (R36,
R147, R151).
-/

namespace Sys2Proof.Machine

/-- R147: the hold level that a hold state stands with. -/
def HoldState.Fits (st : HoldState) (level : Nat) : Prop :=
  (st = .running → level = 0) ∧ (st = .holding → level < 1024) ∧ (st = .held → level = 1024) ∧
  (st = .resuming → 0 < level)

theorem State.holdLaw_iff (s : State) : s.HoldLaw ↔ s.hold.state.Fits s.level.hold ∧
    (s.hold.condition ≠ .running → s.hold.state = .held) := by
  simp only [State.HoldLaw, HoldState.Fits, and_assoc]

/-- R147: the state formed from the set and the level fits the level, which stands above 1024 only with the set empty. -/
theorem holdStateOf_fits {held : Bool} {level : Nat} (h : held = true → level ≤ 1024) :
    (holdStateOf held level).Fits level := by
  unfold holdStateOf
  split
  · have := h ‹_›
    split
    · exact ⟨nofun, fun _ => ‹_›, nofun, nofun⟩
    · exact ⟨nofun, nofun, fun _ => by omega, nofun⟩
  · split
    · exact ⟨fun _ => ‹_›, nofun, nofun, nofun⟩
    · exact ⟨nofun, nofun, nofun, fun _ => by omega⟩

/-- R35: with the set not empty a tick leaves the hold level within 1024. -/
theorem holdLevelTick_held_le (level : Nat) : holdLevelTick true level ≤ 1024 := Nat.min_le_left ..

/-- R147: the hold state that a tick forms fits the level it leaves. -/
theorem holdStateOf_tick_fits (held : Bool) (l : Level) :
    (holdStateOf held (l.tick held).hold).Fits (l.tick held).hold :=
  holdStateOf_fits fun h => h ▸ holdLevelTick_held_le l.hold

theorem HoldState.held_fits : HoldState.held.Fits 1024 := ⟨nofun, nofun, fun _ => rfl, nofun⟩

/-- R23, R147: the beginning of a computation keeps the tie. -/
theorem State.beginComputation_fits {s : State} (k : FrameNo) (h : s.hold.state.Fits s.level.hold) :
    (s.beginComputation k).hold.state.Fits (s.beginComputation k).level.hold := by
  rw [s.beginComputation_holdState k, (s.beginComputation_units k).1]
  by_cases ht : k.toNat % 48 = 0
  · rw [if_pos ht, if_pos ht]
    exact holdStateOf_tick_fits _ _
  · rwa [if_neg ht, if_neg ht]

/-- R18, R147: a computation keeps the tie; it runs in RUNNING alone. -/
theorem State.HoldLaw.compute {s : State} (h : s.HoldLaw) (hc : s.hold.condition = .running) (k : FrameNo) :
    (s.compute k).HoldLaw := by
  obtain ⟨level, -, -, state⟩ := s.compute_frame_samples k
  refine (State.holdLaw_iff _).2 ⟨?_, fun hn => absurd ?_ hn⟩
  · rw [level, state]
    exact State.beginComputation_fits k ((State.holdLaw_iff s).1 h).1
  · rw [State.compute_condition, hc]

/-- R15, R36: entry into ISOLATED holds at once; the other conditions keep their hold. -/
theorem State.HoldLaw.isolate {s : State} (h : s.HoldLaw) : s.isolate.HoldLaw := by
  by_cases hc : s.hold.condition = .running
  · obtain ⟨hold, level, -⟩ := State.isolate_running hc
    rw [State.holdLaw_iff, hold, level]
    exact ⟨HoldState.held_fits, fun _ => rfl⟩
  · rw [State.isolate_other hc]
    exact h

/-- R17: a part regained from ISOLATED stands HELD in RUNNING. -/
theorem State.HoldLaw.lockU {s : State} (h : s.HoldLaw) (p : PortRx) : (s.lockU p).HoldLaw := by
  obtain ⟨fits, outside⟩ := (State.holdLaw_iff s).1 h
  refine (State.holdLaw_iff _).2 ⟨fits, fun hn => outside fun hr => hn ?_⟩
  show (if s.hold.condition = .isolated then Condition.running else s.hold.condition) = .running
  rw [hr]
  rfl

/-- R36, R151: entry into QUIET holds at once. -/
theorem State.holdLaw_enterQuiet (s : State) : s.enterQuiet.HoldLaw := by
  have state : s.enterQuiet.hold.state = .held := by
    simp [State.enterQuiet, State.clearMemories, holdStateOf, Hold.any]
  have level : s.enterQuiet.level.hold = 1024 := by simp [State.enterQuiet, State.holdAtOnce]
  rw [State.holdLaw_iff, state, level]
  exact ⟨HoldState.held_fits, fun _ => rfl⟩

/-- R147: the tie is kept by every operation that moves what it reads. -/
theorem keptByUnits_holdLaw : KeptByUnits State.HoldLaw where
  reads hs hv := by
    obtain ⟨hl, _, _, _, hh⟩ := State.unitView_eq_iff.1 hv
    rw [State.holdLaw_iff] at hs ⊢
    rwa [hl, hh]
  powerOn := State.powerOn_holdLaw
  compute k hc hs := hs.compute hc k
  isolate hs := hs.isolate
  lockU p hs := hs.lockU p
  enterQuiet {s} _ := s.holdLaw_enterQuiet
  setPickup _ _ _ _ _ _ _ _ _ hs := hs
  setFeed _ _ _ hs := hs
  aimGroups _ _ _ hs := hs
  setGuards _ _ hs := by
    rw [State.holdLaw_iff] at hs ⊢
    simpa using hs
  addMessage hs := hs
  resume hs := hs
  hangExpire _ hs := hs
  guardEvent _ hs := ⟨hs, hs⟩

/-- Settles O9: the tie is kept by the operations of `KeptByUnits`, and so by every step. -/
theorem stepKeepsHoldLaw : Obligations.StepKeepsHoldLaw := fun _ _ hs h => keptByUnits_holdLaw.step hs h

end Sys2Proof.Machine
end

section
/-!
PROOFS. Settles O27 and O23: a gate and a ramp group at a tick (R25, R47 to R51).
-/

namespace Sys2Proof.Machine

/-! ## Ramps -/

/-- R25, R50: above its goal a ramp falls by its rate and stops at the goal. -/
theorem ramp_of_gt {x goal rate : Nat} (hr : 0 < rate) (hg : goal < x) : ramp x goal rate = max goal (x - rate) := by
  rcases ramp_cases x goal rate with ⟨h, _⟩ | ⟨_, _, e⟩ | ⟨_, h, _⟩
  · omega
  · exact e
  · omega

/-- R25, R50: below its goal a ramp rises by its rate and stops at the goal. -/
theorem ramp_of_le {x goal rate : Nat} (hr : 0 < rate) (hg : x ≤ goal) : ramp x goal rate = min goal (x + rate) := by
  rcases ramp_cases x goal rate with ⟨h, _⟩ | ⟨_, h, _⟩ | ⟨_, _, e⟩
  · omega
  · omega
  · exact e

/-- R25: a ramp stays between where it stands and its goal. -/
theorem ramp_between (x goal rate : Nat) : min x goal ≤ ramp x goal rate ∧ ramp x goal rate ≤ max x goal := by
  rcases ramp_cases x goal rate with ⟨_, e⟩ | ⟨_, _, e⟩ | ⟨_, _, e⟩ <;> rw [e] <;> omega

/-- R25: a ramp at its goal stays. -/
theorem ramp_self (x rate : Nat) : ramp x x rate = x := by
  obtain ⟨lo, hi⟩ := ramp_between x x rate
  omega

/-! ## Gates -/

/-- R47 to R50: an enabled gate's tick takes the peak, moves the gate and the hang count, and then the level. -/
theorem Pickup.tick_enabled {p : Pickup} (he : p.enable = true) : p.tick = p.takePeak.moveGate.moveLevel := if_pos he

/-- R48, R49: the gate that each state moves to. -/
theorem Pickup.moveGate_gate (p : Pickup) :
    (p.gate = .closed → p.moveGate.gate = if gain p.openCode ≤ p.tickPeak then .opened else .closed) ∧
    (p.gate = .opened → p.moveGate.gate =
      if gain p.closeCode ≤ p.tickPeak then .opened else if 0 < p.hang then .hanging else .closed) ∧
    (p.gate = .hanging → p.moveGate.gate =
      if gain p.closeCode ≤ p.tickPeak then .opened else if p.hangCount ≤ 1 then .closed else .hanging) := by
  unfold Pickup.moveGate
  refine ⟨fun h => ?_, fun h => ?_, fun h => ?_⟩ <;> rw [h] <;> dsimp only
  · split <;> rfl
  · split
    · rfl
    · split <;> rfl
  · split
    · rfl
    · split <;> rfl

/-- R48, R49: the hang count is loaded on entry into HANGING, counts there, and is 0 elsewhere. -/
theorem Pickup.moveGate_hangCount (p : Pickup) : p.moveGate.hangCount =
    if p.moveGate.gate = .hanging then (if p.gate = .opened then p.hang else p.hangCount - 1) else 0 := by
  unfold Pickup.moveGate
  cases p.gate with
  | closed => dsimp only; split <;> rfl
  | opened =>
    dsimp only
    split
    · rfl
    · split <;> rfl
  | hanging =>
    dsimp only
    split
    · rfl
    · split <;> rfl

/-- R50: the level moves toward the floor code in CLOSED, and toward 0 elsewhere. -/
theorem Pickup.moveLevel_level (p : Pickup) : p.moveLevel.level =
    if p.gate = .closed then ramp p.level p.floorCode p.release else ramp p.level 0 p.attack := by
  unfold Pickup.moveLevel
  cases p.gate <;> rfl

/-- The pickup whose tick it is, with the gate moved: only the gate and the hang count are new. -/
theorem Pickup.tick_gate {p : Pickup} (he : p.enable = true) :
    p.tick.gate = p.takePeak.moveGate.gate ∧ p.tick.hangCount = p.takePeak.moveGate.hangCount ∧
    p.tick.level = p.takePeak.moveGate.moveLevel.level := by
  rw [Pickup.tick_enabled he, Pickup.moveLevel_frame]
  exact ⟨rfl, rfl, rfl⟩

/-- Settles O27, the gate's record part by part. -/
theorem gateMovesAtTick : Obligations.GateMovesAtTick := by
  refine ⟨fun p => ⟨fun he => ?_, fun he => ?_⟩, fun x goal rate => ⟨rfl, ramp_of_gt, ramp_of_le⟩⟩
  · exact if_neg (by simp [he])
  · obtain ⟨gate, count, level⟩ := Pickup.tick_gate he
    obtain ⟨closed, opened, hanging⟩ := p.takePeak.moveGate_gate
    refine ⟨?_, fun h => gate.trans (closed h), fun h => gate.trans (opened h), fun h => gate.trans (hanging h), ?_, ?_⟩
    · rw [gate, count, level, Pickup.tick_enabled he, Pickup.moveLevel_frame, Pickup.moveGate_frame]
      rfl
    · rw [count, gate]
      exact p.takePeak.moveGate_hangCount
    · rw [level, gate, Pickup.moveLevel_level, Pickup.moveGate_frame]
      rfl

/-! ## Groups -/

/-- R25: a group at a tick moves its current, and its phase follows. -/
theorem Level.tick_group (l : Level) (held : Bool) (i : Fin 32) :
    (l.tick held).groups.get i = (l.groups.get i).tick := Bank.get_map ..

/-- R25: at rate 1 a code above 0 falls by 1 at each tick. -/
theorem Group.tick_iterate_rate_one (c n : Nat) (h : n ≤ c) (p : Phase) :
    (Group.tick^[n] ⟨c, 0, 1, p⟩).current = c - n ∧ (Group.tick^[n] ⟨c, 0, 1, p⟩).target = 0 ∧
    (Group.tick^[n] ⟨c, 0, 1, p⟩).rate = 1 := by
  induction n with
  | zero => exact ⟨rfl, rfl, rfl⟩
  | succ n ih =>
    obtain ⟨current, target, rate⟩ := ih (by omega)
    rw [Function.iterate_succ_apply']
    refine ⟨?_, target, rate⟩
    show ramp _ _ _ = _
    rw [current, target, rate]
    rw [ramp_of_gt Nat.one_pos (by omega)]
    omega

/-- Settles O23: one group at a tick from its ramp, and the two ramps of R25. -/
theorem groupsMoveAtTick : Obligations.GroupsMoveAtTick := by
  refine ⟨fun l held i => ?_, rfl, fun n hn => (Group.tick_iterate_rate_one 1024 n hn .rising).1⟩
  intro old new
  have hnew : new = old.tick := l.tick_group held i
  rw [hnew]
  obtain ⟨steady, rising, falling⟩ := phaseOf_spec old.tick.current old.target
  refine ⟨fun h => ?_, fun hr hc => ?_, fun hr hc => ?_, fun h => ?_, rfl, rfl, steady.2, rising.2, falling.2,
    ramp_between old.current old.target old.rate⟩
  · exact if_pos h
  · exact ramp_of_gt hr hc
  · exact ramp_of_le hr (Nat.le_of_lt hc)
  · show ramp old.current old.target old.rate = old.current
    rw [h, ramp_self]

end Sys2Proof.Machine
end

section
/-!
PROOFS. Settles O21: the attenuation scale and its coarse table (R21, R22).
-/

namespace Sys2Proof.Machine

/-! ## The coarse table (R22) -/

theorem coarse_succ_le : ∀ i < 63, coarse (i + 1) ≤ coarse i := by decide

/-- R22: the table falls. -/
theorem coarse_antitone {i j : Nat} (h : i ≤ j) (hj : j ≤ 63) : coarse j ≤ coarse i := by
  induction j, h using Nat.le_induction with
  | base => exact Nat.le_refl _
  | succ j _ ih => exact (coarse_succ_le j (by omega)).trans (ih (by omega))

/-- R22: `C[i]` lies within a half of `2^23 * 2^(-i/64)`: the 64th powers of its neighbours at that distance enclose
`2^(1536 - i)`. -/
theorem coarse_rounded : ∀ i < 64,
    (2 * coarse i - 1) ^ 64 ≤ 2 ^ (1536 - i) ∧ 2 ^ (1536 - i) < (2 * coarse i + 1) ^ 64 := by decide +kernel

/-! ## The shift (R21) -/

theorem shiftRounded_mono {x y : Nat} (h : x ≤ y) (q : Nat) : shiftRounded x q ≤ shiftRounded y q :=
  Nat.div_le_div_right (Nat.add_le_add_right h _)

/-- R21: a shift by one place more halves, with the same rounding. -/
theorem shiftRounded_succ_double (y q : Nat) : shiftRounded (2 * y) (q + 1) = shiftRounded y q := by
  have half : (2 * y + 2 ^ (q + 1) / 2) / 2 = y + 2 ^ q / 2 := by
    rw [pow_succ]
    omega
  rw [shiftRounded, shiftRounded, pow_succ', ← Nat.div_div_eq_div_mul, ← pow_succ', half]

/-! ## The gain (R21) -/

theorem gain_of_lt {a : Nat} (h : a < 1024) : gain a = shiftRounded (coarse (a % 64)) (a / 64) := if_neg (by omega)

theorem gain_mute {a : Nat} (h : 1024 ≤ a) : gain a = 0 := if_pos h

/-- R21: one step up the scale never raises the gain: within a halving the table falls, and a whole halving is at most
twice the table's last entry. -/
theorem gain_succ_le (a : Nat) : gain (a + 1) ≤ gain a := by
  by_cases h : 1024 ≤ a + 1
  · rw [gain_mute h]
    exact Nat.zero_le _
  rw [gain_of_lt (by omega : a + 1 < 1024), gain_of_lt (by omega : a < 1024)]
  by_cases last : a % 64 = 63
  · have next : (a + 1) % 64 = 0 ∧ (a + 1) / 64 = a / 64 + 1 := by omega
    rw [next.1, next.2, last, ← shiftRounded_succ_double (coarse 63)]
    exact shiftRounded_mono (by decide : coarse 0 ≤ 2 * coarse 63) _
  · have next : (a + 1) % 64 = a % 64 + 1 ∧ (a + 1) / 64 = a / 64 := by omega
    rw [next.1, next.2]
    exact shiftRounded_mono (coarse_succ_le _ (by omega)) _

theorem gain_antitone : Antitone gain := antitone_nat_of_succ_le gain_succ_le

theorem gain_1023 : gain 1023 = 129 := by decide

/-- R21: a whole number of halvings is exact. -/
theorem gain_halvings : ∀ q ≤ 15, gain (64 * q) = 2 ^ (23 - q) := by decide

/-- Settles O21: the conversion from the shift, and the table by its entries. -/
theorem attenuationCodeGivesGain : Obligations.AttenuationCodeGivesGain := by
  refine ⟨⟨rfl, fun a ha => gain_of_lt ha, by decide, fun a b h _ => gain_antitone h, gain_halvings, gain_1023,
    fun a ha => ?_⟩, by decide, by decide, by decide, by decide, by decide, coarse_rounded⟩
  exact gain_1023.symm.trans_le (gain_antitone (by omega))

end Sys2Proof.Machine
end

section
/-!
PROOFS. Settles O53: PICKUP_SET, FEED_SET and GROUP_SET (R26, R28, R39, R51, R176, R178, R183).
-/

namespace Sys2Proof.Machine

/-! ## Operands -/

/-- R167: an octet is below 256. -/
theorem at8_lt (p : List Byte) (i : Nat) : at8 p i < 256 := (p.getD i 0).isLt

/-- R174: a slot code that names a slot or NONE. -/
theorem slotOrNone?_of {x : Nat} {slot : Option (Fin 128)}
    (h : slot = none ∧ x = 255 ∨ ∃ y : Fin 128, slot = some y ∧ x = y.val) : slotOrNone? x = some slot := by
  rcases h with ⟨rfl, rfl⟩ | ⟨y, rfl, rfl⟩
  · rfl
  · rw [slotOrNone?_eq, if_neg (by omega), dif_pos y.isLt]

/-- R176: a slot code 128..254 names nothing. -/
theorem slotOrNone?_bad {x : Nat} (h : 127 < x ∧ x < 255) : slotOrNone? x = none := by
  rw [slotOrNone?_eq, if_neg (by omega), dif_neg (by omega)]

/-! ## The judgements -/

theorem judgePickupSet_badIndex {p : List Byte} {s : State}
    (h : 47 < at8 p 0 ∨ 127 < at8 p 1 ∧ at8 p 1 < 255) : judgePickupSet p s = .refused .badIndex := by
  unfold judgePickupSet
  rcases h with h | h
  · rw [index?_of_ge (by omega)]
  · rw [slotOrNone?_bad h]
    cases index? 48 (at8 p 0) <;> rfl

theorem judgePickupSet_eq {p : List Byte} {s : State} {i : Fin 48} {slot : Option (Fin 128)} (hi : at8 p 0 = i.val)
    (hs : slotOrNone? (at8 p 1) = some slot) : judgePickupSet p s = applied { s with
      pickups := s.pickups.modify i (Pickup.configure slot (onOff (at8 p 2)) (at16 p 3) (at16 p 5) (at8 p 7) (at16 p 8)
        (at8 p 10) (at8 p 11)) } := by
  unfold judgePickupSet
  rw [index?_val hi, hs]

theorem judgeFeedSet_badIndex {p : List Byte} {s : State}
    (h : 31 < at8 p 0 ∨ 127 < at8 p 1 ∧ at8 p 1 < 255) : judgeFeedSet p s = .refused .badIndex := by
  unfold judgeFeedSet
  rcases h with h | h
  · rw [index?_of_ge (by omega)]
  · rw [slotOrNone?_bad h]
    cases index? 32 (at8 p 0) <;> rfl

theorem judgeFeedSet_eq {p : List Byte} {s : State} {f : Fin 32} {slot : Option (Fin 128)} (hf : at8 p 0 = f.val)
    (hs : slotOrNone? (at8 p 1) = some slot) : judgeFeedSet p s =
      if s.feedSlotTaken f slot then .refused .slotTaken
      else applied { s with
        level := { s.level with feeds := s.level.feeds.modify f (Feed.configure slot (at16 p 2)) } } := by
  unfold judgeFeedSet
  rw [index?_val hf, hs]

/-- R178: the slot is held by another feed, or by the generator while it is on. -/
theorem State.feedSlotTaken_iff (f : Fin 32) (slot : Option (Fin 128)) (s : State) :
    s.feedSlotTaken f slot = true ↔ ∃ x, slot = some x ∧
      ((∃ g, g ≠ f ∧ (s.level.feeds.get g).slot = some x) ∨ (s.pattern.genOn = true ∧ s.pattern.genSlot = x)) := by
  cases slot with
  | none => simp [State.feedSlotTaken]
  | some x => simp [State.feedSlotTaken, State.slotTaken]

/-- R39: an octet needs no clamp. -/
theorem Pickup.configure_octets (slot : Option (Fin 128)) (p : List Byte) (q : Pickup) :
    q.configure slot (onOff (at8 p 2)) (at16 p 3) (at16 p 5) (at8 p 7) (at16 p 8) (at8 p 10) (at8 p 11) = { q with
      slot := slot
      enable := at8 p 2 != 0
      openCode := min 1024 (at16 p 3)
      closeCode := max (min 1024 (at16 p 3)) (min 1024 (at16 p 5))
      hang := at8 p 7
      floorCode := min 1024 (at16 p 8)
      attack := at8 p 10
      release := at8 p 11
      gate := if at8 p 2 != 0 && q.enable then q.gate else .opened
      level := if at8 p 2 != 0 && q.enable then q.level else 0
      hangCount := if at8 p 2 != 0 && q.enable then q.hangCount else 0 } := by
  have small : ∀ i, min 255 (at8 p i) = at8 p i := fun i => Nat.min_eq_right (Nat.le_of_lt_succ (at8_lt p i))
  unfold Pickup.configure
  rw [small 7, small 10, small 11]
  rfl

/-- R26: one group under GROUP_SET. -/
theorem Level.aimGroups_get (mask : BitVec 32) (target rate : Nat) (l : Level) (i : Fin 32) :
    (l.aimGroups mask target rate).groups.get i =
      if mask.getLsbD i.val then (l.groups.get i).aim (clampCode target) (min 255 rate) else l.groups.get i :=
  Bank.get_mapIdx ..

/-- Settles O53, command by command. -/
theorem pickupFeedAndGroupSettings : Obligations.PickupFeedAndGroupSettings := by
  refine ⟨fun s e rest h hq => ⟨fun hb => ?_, fun i slot hi hs => ?_⟩,
    fun s e rest h hq => ⟨fun hb => ?_, fun f slot hf hs => ⟨fun taken => ?_, fun free => ?_⟩⟩, fun s e rest h hq => ?_⟩
  · refine congrArg _ ((h.posted hq _ _).trans ?_)
    rw [judgePickupSet_badIndex hb, State.settle_refusal]
  · refine ⟨_, congrArg _ ((h.posted hq _ _).trans ?_), fun j hj => Bank.get_modify_of_ne _ hj _,
      (Bank.get_modify_self ..).trans (Pickup.configure_octets slot e.params _)⟩
    rw [judgePickupSet_eq hi (slotOrNone?_of hs), State.settle_applied]
    rfl
  · refine congrArg _ ((h.posted hq _ _).trans ?_)
    rw [judgeFeedSet_badIndex hb, State.settle_refusal]
  · refine congrArg _ ((h.posted hq _ _).trans ?_)
    have ht : (s.popQueue rest).feedSlotTaken f slot = true := (State.feedSlotTaken_iff f slot s).2 taken
    rw [judgeFeedSet_eq hf (slotOrNone?_of hs), if_pos ht, State.settle_refusal]
  · have ht : ¬(s.popQueue rest).feedSlotTaken f slot = true := by
      refine mt (State.feedSlotTaken_iff f slot s).1 ?_
      rintro ⟨x, hx, ⟨g, hg, hk⟩ | ⟨on, hk⟩⟩
      · exact (free x hx).1 g hg hk
      · exact (free x hx).2.elim (fun off => by simp [on] at off) fun hn => hn hk
    refine ⟨s.level.feeds.modify f (Feed.configure slot (at16 e.params 2)), congrArg _ ((h.posted hq _ _).trans ?_),
      fun g hg => Bank.get_modify_of_ne _ hg _, Bank.get_modify_self ..⟩
    rw [judgeFeedSet_eq hf (slotOrNone?_of hs), if_neg ht, State.settle_applied]
    rfl
  · refine ⟨(s.level.aimGroups (at32 e.params 0) (at16 e.params 4) (at8 e.params 6)).groups,
      congrArg _ (h.posted hq _ _), fun i => ?_⟩
    have get := s.level.aimGroups_get (at32 e.params 0) (at16 e.params 4) (at8 e.params 6) i
    cases hm : (at32 e.params 0).getLsbD i.val with
    | false =>
      rw [hm] at get
      exact .inl ⟨rfl, get⟩
    | true =>
      rw [hm, if_pos rfl] at get
      obtain ⟨steady, rising, _⟩ := phaseOf_spec (s.level.groups.get i).current (clampCode (at16 e.params 4))
      rw [get]
      exact .inr ⟨rfl, rfl, rfl, Nat.min_eq_right (Nat.le_of_lt_succ (at8_lt _ _)), steady, rising⟩

end Sys2Proof.Machine
end

section
/-!
PROOFS. Settles O25: the output stage (R21, R31 to R34, R36, R152).
-/

namespace Sys2Proof.Machine

/-! ## Samples -/

/-- 00_scope 6.2: the sample of a value is the value saturated. -/
theorem toSample_toInt (x : Int) : (toSample x).toInt = max (-8388608) (min 8388607 x) := by
  obtain ⟨lo, hi⟩ := saturate24_mem x
  rw [toSample, BitVec.toInt_ofInt, Int.bmod_eq_of_le (by omega) (by omega)]
  rfl

theorem overflows24_iff (x : Int) : overflows24 x = decide (x < -8388608 ∨ 8388607 < x) := by
  simp [overflows24]

/-- R21, R32: a value at feed total 1024 is 0. -/
theorem toSample_outputValue_mute (v : Int) {total : Nat} (h : 1024 ≤ total) : toSample (outputValue v total) = 0 := by
  have zero : outputValue v total = 0 := by
    rw [outputValue, gain, if_pos h, Int.natCast_zero, Int.mul_zero]
    rfl
  rw [zero]
  rfl

/-! ## A part that holds -/

/-- R32: the out value of a feed. -/
theorem State.feedOuts_get (k : FrameNo) (s : State) (f : Fin 32) : (s.feedOuts k).get f = toSample (s.rawOut k f) :=
  Bank.get_ofFn ..

theorem State.computeOuts_get (k : FrameNo) (s : State) (f : Fin 32) :
    (s.computeOuts k).get f = toSample (((s.beginComputation k).runPickups k).rawOut k f) :=
  State.feedOuts_get k _ f

/-- R31, R36: at hold level 1024 every feed is mute. -/
theorem State.feedOuts_mute {s : State} (k : FrameNo) (f : Fin 32) (h : 1024 ≤ s.level.hold) :
    (s.feedOuts k).get f = 0 := by
  have total : 1024 ≤ s.totalOf f := by
    unfold State.totalOf feedTotal
    omega
  rw [State.feedOuts_get]
  exact toSample_outputValue_mute _ total

/-- R34, R36, R147: a computation that begins HELD gives 0 for every feed. -/
theorem State.computeOuts_held {s : State} (k : FrameNo) (f : Fin 32) (hs : s.HoldLaw)
    (h : (s.beginComputation k).hold.state = .held) : (s.computeOuts k).get f = 0 := by
  obtain ⟨_, _, held, _⟩ := State.beginComputation_fits k ((State.holdLaw_iff s).1 hs).1
  refine State.feedOuts_mute k f ?_
  have level : ((s.beginComputation k).runPickups k).level = (s.beginComputation k).level := by simp
  rw [level]
  exact (held h).ge

/-- R32, R152: the feed values of a frame are those of the computation it paces, or 0. -/
theorem State.paceOuts_cases (n : FrameNo) (s : State) :
    ((s.countFrame n).computes = true ∧ s.paceOuts n = (s.countFrame n).computeOuts (n - 8) ∧
      s.paceFrame n = ((s.countFrame n).compute (n - 8)).generate) ∨
    ((s.countFrame n).computes = false ∧ s.paceOuts n = Bank.fill 32 0) := by
  unfold State.paceOuts State.paceFrame
  cases h : (s.countFrame n).computes with
  | true => exact .inl ⟨rfl, rfl, rfl⟩
  | false => exact .inr ⟨rfl, rfl⟩

theorem State.paceOuts_held {s : State} (n : FrameNo) (f : Fin 32) (hs : s.HoldLaw)
    (h : (s.paceFrame n).hold.state = .held) : (s.paceOuts n).get f = 0 := by
  rcases s.paceOuts_cases n with ⟨-, outs, paced⟩ | ⟨-, outs⟩ <;> rw [outs]
  · have counted : (s.countFrame n).HoldLaw := keptByUnits_holdLaw.reads hs (by simp [State.unitView])
    refine State.computeOuts_held _ f counted ?_
    rw [paced, State.generate_hold] at h
    rw [← h]
    obtain ⟨-, -, -, state⟩ := (s.countFrame n).compute_frame_samples (n - 8)
    exact state.symm
  · exact Bank.get_fill ..

/-- R152: a part that is not RUNNING gives 0 for every feed. -/
theorem State.paceOuts_idle {s : State} (n : FrameNo) (f : Fin 32) (h : s.hold.condition ≠ .running) :
    (s.paceOuts n).get f = 0 := by
  rcases s.paceOuts_cases n with ⟨computes, -, -⟩ | ⟨-, outs⟩
  · simp [State.computes, h] at computes
  · rw [outs, Bank.get_fill]

/-! ## FEED_CLIP (R33) -/

theorem State.countFeedClips_events (n : Nat) (s : State) :
    (s.countFeedClips n).events.feedClips = min top32 (s.events.feedClips + n) ∧
    ((s.countFeedClips n).events.latched .feedClip = true ↔ s.events.latched .feedClip = true ∨ 0 < n) := by
  unfold State.countFeedClips
  simp only [State.latchIf_events, Events.latched_eq, BitVec.getLsbD_or, Event.wordIf_bit]
  simp [countUp]

/-- R33: the samples of a computation count and latch the feeds that saturate; neither the pickups, the check nor the
cores touch that. -/
theorem State.runSamples_feedClips (k : FrameNo) (s : State) :
    (s.runSamples k).events.feedClips = min top32 (s.events.feedClips + (s.runPickups k).feedClips k) ∧
    ((s.runSamples k).events.latched .feedClip = true ↔
      s.events.latched .feedClip = true ∨ 0 < (s.runPickups k).feedClips k) := by
  have pickups : (s.runPickups k).events.feedClips = s.events.feedClips ∧
      (s.runPickups k).events.latched .feedClip = s.events.latched .feedClip := by
    unfold State.runPickups
    simp only [State.latchIf_events, Events.latched_eq, BitVec.getLsbD_or, Event.wordIf_bit]
    simp
  have cores : ∀ (w : Option Nat) (inj : Fin 4 → Fin 8 → Int) (t : State),
      (t.runCores w inj).events.feedClips = t.events.feedClips ∧
      (t.runCores w inj).events.latched .feedClip = t.events.latched .feedClip := by
    intro w inj t
    unfold State.runCores
    simp only [State.latchIf_events, Events.latched_eq, BitVec.getLsbD_or, Event.wordIf_bit]
    simp
  have check : ∀ t : State, t.advanceCheck.events = t.events := fun t => by simp
  obtain ⟨count, latch⟩ := State.countFeedClips_events ((s.runPickups k).feedClips k) (s.runPickups k)
  unfold State.runSamples
  rw [State.recordPeaks_events, (cores ..).1, (cores ..).2, check, count, latch, pickups.1, pickups.2]
  exact ⟨rfl, Iff.rfl⟩

theorem State.tickGuard_feedClips (m : Fin 32 → Bool) (s : State) :
    (s.tickGuard m).events.feedClips = s.events.feedClips := by
  simp [State.tickGuard]

/-- R33: so does the whole computation. -/
theorem State.compute_feedClips (k : FrameNo) (s : State) :
    (s.compute k).events.feedClips =
      min top32 (s.events.feedClips + ((s.beginComputation k).runPickups k).feedClips k) ∧
    ((s.compute k).events.latched .feedClip = true ↔
      s.events.latched .feedClip = true ∨ 0 < ((s.beginComputation k).runPickups k).feedClips k) := by
  have begun : (s.beginComputation k).events.feedClips = s.events.feedClips ∧
      (s.beginComputation k).events.latched .feedClip = s.events.latched .feedClip := by
    obtain ⟨counters, latches⟩ := s.beginComputation_events k
    refine ⟨by rw [counters], ?_⟩
    rw [latches .feedClip (by simp)]
    simp
  obtain ⟨count, latch⟩ := (s.beginComputation k).runSamples_feedClips k
  rw [begun.1] at count
  rw [begun.2] at latch
  by_cases ht : k.toNat % 48 = 0
  · rw [s.compute_tick k ht]
    rw [State.tickGuard_feedClips, State.tickGuard_latched_other (by simp)]
    exact ⟨count, latch⟩
  · rw [s.compute_between k ht]
    exact ⟨count, latch⟩

/-- R31, R32: the value of a feed before saturation, from the levels that the tick left and the guard trim that the
computation began with. -/
theorem State.compute_rawOut (k : FrameNo) (s : State) (f : Fin 32) :
    ((s.beginComputation k).runPickups k).rawOut k f =
      (((s.beginComputation k).runPickups k).mixed k (octet f.val) *
        gain (min 1024 (((s.compute k).level.feeds.get f).trim + (s.guards.get f).trim + (s.compute k).level.hold)) +
        4194304) / 8388608 := by
  have level : ((s.beginComputation k).runPickups k).level = (s.compute k).level := by
    rw [(s.compute_frame_samples k).1]
    simp
  have guards : ((s.beginComputation k).runPickups k).guards = s.guards := by simp
  rw [← level, ← guards]
  rfl

/-- Settles O25. -/
theorem outputStageScalesOrMutes : Obligations.OutputStageScalesOrMutes := by
  refine ⟨fun s k f h => State.feedOuts_mute k f h, fun s n f hs h => State.paceOuts_held n f hs h,
    fun s n f h => State.paceOuts_idle n f h, fun s k => ?_⟩
  intro t p total scaled clips
  have raw : ∀ f, p.rawOut k f = scaled f := State.compute_rawOut k s
  have count : p.feedClips k = clips := by
    show ((List.finRange 32).filter fun f => overflows24 (p.rawOut k f)).length = _
    simp only [raw, overflows24_iff]
    rfl
  obtain ⟨counted, latched⟩ := s.compute_feedClips k
  refine ⟨fun f => ?_, counted.trans (by rw [← count]), latched.trans (by rw [← count])⟩
  rw [State.computeOuts_get, toSample_toInt]
  exact congrArg (fun x : Int => max (-8388608) (min 8388607 x)) (raw f)

end Sys2Proof.Machine
end

section
/-!
PROOFS. Settles O24: what a tap reads, its effective gain, the sum of a destination and the mix of the running scenes
(R27, R58, R59, R61, R63, R64, R66 to R71).
-/

namespace Sys2Proof.Machine

/-! ## Gains (R21, R61) -/

theorem gain_zero : gain 0 = 8388608 := by decide

theorem gain_le_unity (a : Nat) : gain a ≤ 8388608 := gain_zero ▸ gain_antitone (Nat.zero_le a)

/-- R61: a gain of 16 bits times a linear gain of at most unity. -/
theorem baseGain_natAbs_le (g : BitVec 16) {lg : Nat} (h : lg ≤ 8388608) : (baseGain g.toInt lg).natAbs ≤ 8388608 := by
  have lo : -32768 ≤ g.toInt := BitVec.le_toInt g
  have hi : g.toInt < 32768 := BitVec.toInt_lt
  have lower : -32768 * 8388608 ≤ g.toInt * (lg : Int) := by nlinarith
  have upper : g.toInt * (lg : Int) ≤ 32768 * 8388608 := by nlinarith
  unfold baseGain scale15
  omega

/-- R27, R61: without a group a tap gain is weighted by unity. -/
theorem baseGain_no_group (groups : Bank 32 Group) (g : Int) : baseGain g (groupGain groups 255) = g * 256 := by
  show (g * 8388608 + 16384) / 32768 = g * 256
  omega

/-- R27: the linear gain of the group that a code names. -/
theorem groupGain_of {groups : Bank 32 Group} {code : Byte} {lg : Nat}
    (h : code = 255 ∧ lg = 8388608 ∨ ∃ g : Fin 32, code.toNat = g.val ∧ lg = gain (groups.get g).current) :
    groupGain groups code = lg := by
  unfold groupGain
  rcases h with ⟨rfl, rfl⟩ | ⟨g, hg, rfl⟩
  · exact if_pos rfl
  · have named : code ≠ 255 := by
      rintro rfl
      have : (255 : Nat) = g.val := hg
      omega
    rw [if_neg named, index?_val hg]

/-! ## Wander (R63, R64) -/

/-- R63: the triangle of a phase below its period, from the share of the period in 65,536ths. -/
theorem triangle_eq (p phase : Nat) : triangle p phase =
    if 65536 * phase / p < 32768 then 2 * ((65536 * phase / p : Nat) : Int) - 32768
    else 98303 - 2 * ((65536 * phase / p : Nat) : Int) := by
  have share : (65536 * (phase : Int)) / (p : Int) = ((65536 * phase / p : Nat) : Int) := by push_cast; rfl
  unfold triangle
  rw [share]
  dsimp only
  norm_cast

theorem triangle_mem {p phase : Nat} (h : phase < p) : -32768 ≤ triangle p phase ∧ triangle p phase ≤ 32767 := by
  have share : 65536 * phase / p < 65536 := (Nat.div_lt_iff_lt_mul (by omega)).2 (by omega)
  rw [triangle_eq]
  generalize 65536 * phase / p = x at share ⊢
  split <;> omega

theorem wanderPhase_lt {p : Nat} (h : 0 < p) (n t : Nat) : wanderPhase p n t < p := Nat.mod_lt _ h

/-- R64: the wander factor lies between unity and its depth below it. -/
theorem wanderFactor_mem (depth : Nat) {p : Nat} (n t : Nat) (hp : 0 < p) :
    32768 - ((depth * 65535 / 128 : Nat) : Int) ≤ wanderFactor depth p n t ∧ wanderFactor depth p n t ≤ 32768 := by
  obtain ⟨lo, hi⟩ := triangle_mem (wanderPhase_lt hp n t)
  have lower : 0 ≤ (depth : Int) * (triangle p (wanderPhase p n t) + 32768) :=
    Int.mul_nonneg (Int.natCast_nonneg _) (by omega)
  have upper : (depth : Int) * (triangle p (wanderPhase p n t) + 32768) ≤ depth * 65535 :=
    Int.mul_le_mul_of_nonneg_left (by omega) (Int.natCast_nonneg _)
  unfold wanderFactor
  push_cast
  omega

/-- A value times a factor of 0 to unity, rounded, is no greater in magnitude. -/
theorem scale15_natAbs_le (e : Int) {m : Int} (h0 : 0 ≤ m) (h1 : m ≤ 32768) : (scale15 (e * m)).natAbs ≤ e.natAbs := by
  unfold scale15
  rcases Int.le_total 0 e with he | he
  · have lower : 0 ≤ e * m := Int.mul_nonneg he h0
    have upper : e * m ≤ e * 32768 := Int.mul_le_mul_of_nonneg_left h1 he
    omega
  · have lower : e * 32768 ≤ e * m := Int.mul_le_mul_of_nonpos_left he h1
    have upper : e * m ≤ 0 := Int.mul_nonpos_of_nonpos_of_nonneg he h0
    omega

/-- R64: wander never raises a gain's magnitude. -/
theorem wandered_natAbs_le {depth : Nat} (p n t : Nat) (e : Int) (hd : depth ≤ 7) :
    (wandered depth p n t e).natAbs ≤ e.natAbs := by
  unfold wandered
  split
  · exact Nat.le_refl _
  · rename_i h
    obtain ⟨lo, hi⟩ := wanderFactor_mem depth n t (by omega : 0 < p)
    exact scale15_natAbs_le e (by omega) hi

/-- R63, R64: wander keeps 0. -/
theorem wandered_zero (depth p n t : Nat) : wandered depth p n t 0 = 0 := by
  unfold wandered
  split
  · rfl
  · rw [Int.zero_mul]
    rfl

/-- R60, R61, R63: a tap that does not wander has its base gain. -/
theorem effectiveGain_still {groups : Bank 32 Group} {p n t lg : Nat} {tap : Tap}
    (hg : groupGain groups tap.group = lg) (h : tap.depth = 0 ∨ p = 0) :
    effectiveGain groups p n t tap = (tap.tapGain.toInt * lg + 16384) / 32768 := by
  unfold effectiveGain wandered
  rw [if_pos h, hg]
  rfl

/-- R60, R61, R63: a tap that wanders has its base gain times the factor of its index. -/
theorem effectiveGain_wanders {groups : Bank 32 Group} {p n t lg : Nat} {tap : Tap}
    (hg : groupGain groups tap.group = lg) (hd : 0 < tap.depth) (hp : 0 < p) :
    effectiveGain groups p n t tap =
      ((tap.tapGain.toInt * lg + 16384) / 32768 * wanderFactor tap.depth p n t + 16384) / 32768 := by
  unfold effectiveGain wandered
  rw [if_neg (by omega), hg]
  rfl

/-- R60: the gain set of a scene, tap by tap. -/
theorem gainsFrom_getElem? (groups : Bank 32 Group) (p n : Nat) (ts : List Tap) (first t : Nat) :
    (gainsFrom groups p n first ts)[t]? = ts[t]?.map (effectiveGain groups p n (first + t)) := by
  induction ts generalizing first t with
  | nil => rfl
  | cons tap rest ih =>
    cases t with
    | zero => rfl
    | succ t =>
      rw [gainsFrom, List.getElem?_cons_succ, List.getElem?_cons_succ, ih, Nat.add_right_comm, Nat.add_assoc]

theorem gainSet_getElem? (groups : Bank 32 Group) (sc : Scene) (n t : Nat) :
    (gainSet groups sc n)[t]? = sc.taps[t]?.map (effectiveGain groups sc.header.wander n t) := by
  rw [gainSet, gainsFrom_getElem?, Nat.zero_add]

/-! ## Destination sums (R66, R67) -/

/-- R66: the sum over the taps that name the destination, each with its gain. -/
theorem destSum_eq (source : Tap → Int) (code : Byte) (ts : List Tap) (gs : List Int) : destSum source code ts gs =
    (((ts.zip gs).filter fun x => x.1.dest == code).map fun x => source x.1 * x.2).sum := by
  induction ts generalizing gs with
  | nil => rfl
  | cons t ts ih =>
    cases gs with
    | nil => rfl
    | cons g gs =>
      rw [destSum, ih, List.zip_cons_cons, List.filter_cons]
      by_cases h : t.dest = code <;> simp [h]

/-- R66: a destination that no tap names sums to 0. -/
theorem destSum_unnamed (source : Tap → Int) (code : Byte) (ts : List Tap) (gs : List Int)
    (h : ∀ t ∈ ts, t.dest ≠ code) : destSum source code ts gs = 0 := by
  have unnamed : (ts.zip gs).filter (fun x => x.1.dest == code) = [] := by
    refine List.filter_eq_nil_iff.2 fun x hx => ?_
    simpa using h x.1 (List.of_mem_zip (a := x.1) (b := x.2) hx).1
  rw [destSum_eq, unnamed]
  rfl

/-! ## What a tap reads (R58, R59) -/

/-- R53: the position that lies `d` computations back. -/
theorem delayPosition_sub (k : FrameNo) (d : Nat) :
    delayPosition (k - BitVec.ofNat 32 d) = (((k.toNat : Int) - d) % 32768).toNat := by
  have hk := k.isLt
  unfold delayPosition
  rw [BitVec.toNat_sub, BitVec.toNat_ofNat]
  omega

/-- R58: a pickup tap reads its delay line. -/
theorem State.sourceValue_pickup (k : FrameNo) (s : State) {t : Tap} {i : Fin 48} (h : t.source.toNat = i.val) :
    s.sourceValue k t = ((s.delay.get i).read (((k.toNat : Int) - t.delay) % 32768).toNat).toInt := by
  unfold State.sourceValue tapPickup?
  rw [index?_val h, ← delayPosition_sub]

/-- R56: the line that a code from 64 on names. -/
theorem coreLine?_of {code : Byte} {c : Fin 4} {l : Fin 8} (h : code.toNat = 64 + 8 * c.val + l.val) :
    coreLine? code = some (c, l) := by
  have hc : (code.toNat - 64) / 8 = c.val := by omega
  have hl : code.toNat % 8 = l.val := by omega
  unfold coreLine?
  rw [if_pos (by omega), index?_val hc, index?_val hl]

/-- R59: a core line tap reads that line's output in this computation. -/
theorem State.sourceValue_line (k : FrameNo) (s : State) {t : Tap} {c : Fin 4} {l : Fin 8}
    (h : t.source.toNat = 64 + 8 * c.val + l.val) :
    s.sourceValue k t = (s.cores.get c).lineOutput ((s.cores.get c).formInUse s.fadeWeight) l := by
  unfold State.sourceValue tapPickup?
  rw [index?_of_ge (by omega), coreLine?_of h]
  rfl

/-! ## The mix (R67 to R71) -/

/-- R66, R67: the value of a destination of the scene in a state. -/
theorem State.valueOf_eq (k : FrameNo) (st : SceneState) (gains : Option (List Int)) (code : Byte) (s : State) :
    s.valueOf k st gains code =
      match s.sceneIn st with
      | some i => ((((((s.scenes.get i).taps.zip (gains.getD [])).filter fun x => x.1.dest == code).map
          fun x => s.sourceValue k x.1 * x.2).sum) + 4194304) / 8388608
      | none => 0 := by
  unfold State.valueOf sceneValue scale23
  cases s.sceneIn st with
  | none => rfl
  | some i => exact congrArg (fun x : Int => (x + 4194304) / 8388608) (destSum_eq _ _ _ _)

theorem State.mixed_settled {s : State} (k : FrameNo) (code : Byte) (h : s.cue.state.fades = false) :
    s.mixed k code = s.valueOf k .active s.taps.gainActive code := by
  simp [State.mixed, State.fadeWeight, h]

theorem State.mixed_fading {s : State} (k : FrameNo) (code : Byte) (h : s.cue.state.fades = true) :
    s.mixed k code = crossfade (s.valueOf k .outgoing s.taps.gainOutgoing code)
      (s.valueOf k .active s.taps.gainActive code) s.cue.weight := by
  simp [State.mixed, State.fadeWeight, h]

/-- R99: no scene in a state is found where none is. -/
theorem State.sceneIn_eq_none {s : State} {st : SceneState} (h : ∀ i, (s.scenes.get i).state ≠ st) :
    s.sceneIn st = none := by
  simpa [State.sceneIn] using h

/-- R67, R68: with no scene ACTIVE and no crossfade every destination is 0. -/
theorem State.mixed_silent {s : State} (k : FrameNo) (code : Byte) (h : s.cue.state.fades = false)
    (ha : ∀ i, (s.scenes.get i).state ≠ .active) : s.mixed k code = 0 := by
  rw [State.mixed_settled k code h, State.valueOf, State.sceneIn_eq_none ha]

/-- Settles O24, clause by clause. -/
theorem tapGainsAndValues : Obligations.TapGainsAndValues := by
  refine ⟨fun g _ h => baseGain_natAbs_le g h, baseGain_no_group, fun depth _ n t _ hp => wanderFactor_mem depth n t hp,
    fun _ p n t e hd => wandered_natAbs_le p n t e hd, wandered_zero, destSum_unnamed,
    fun _ k code h ha => State.mixed_silent k code h ha,
    fun s k _ => ⟨fun _ h => s.sourceValue_pickup k h, fun _ _ h => s.sourceValue_line k h⟩,
    fun groups p n t tap lg hg => ?_, gainSet_getElem?, fun s k code => ?_⟩
  · have weight := groupGain_of hg
    refine ⟨effectiveGain_still weight, fun hd hp => ?_⟩
    intro phase h tri factor
    have hf : wanderFactor tap.depth p n t = factor := by
      show 32768 - (tap.depth : Int) * (triangle p phase + 32768) / 128 = factor
      rw [triangle_eq]
    rw [effectiveGain_wanders weight hd hp, hf]
  · intro value old new
    have hv : ∀ st gains, s.valueOf k st gains code = value st gains := fun st gains => s.valueOf_eq k st gains code
    refine ⟨fun h => ?_, fun h => ?_, fun _ _ => rfl⟩
    · rw [State.mixed_settled k code h, hv]
    · rw [State.mixed_fading k code h, hv, hv]
      rfl

end Sys2Proof.Machine
end

section
/-!
PROOFS. A law over the sample memories, the cores, the scenes, the check and the Cue Unit (`State.storeView`) is kept by
every command when it is kept by the few operations that move what it reads: `KeptByStores` names them, each with what
the model has tested before it acts.
-/

namespace Sys2Proof.Machine

/-- Delay Memory, the pickup frame buffer, the cores, the scenes, the running check and the Cue Unit. -/
def State.storeView (s : State) :
    Bank 48 SampleMem × Bank 16 BufferEntry × Bank 4 RevCore × Bank 16 Scene × Option CheckRun × CueUnit :=
  (s.delay, s.buffer, s.cores, s.scenes, s.check, s.cue)

/-- `P` reads the stores alone, holds after power-on, and is kept by a computation, by the clear of the memories, by a
return frame's samples, by the abort of a check, by the events inside the blocks, and by the commands that set a core, a
scene or a cue. -/
structure KeptByStores (P : State → Prop) : Prop where
  reads : ∀ {s t : State}, P s → t.storeView = s.storeView → P t
  powerOn : ∀ lead a, P (State.powerOn lead a)
  compute : ∀ {s : State} (k : FrameNo), P s → P (s.compute k)
  clearMemories : ∀ {s : State}, P s → P s.clearMemories
  fillBuffer : ∀ {s : State} (f : Frame), P s → P (s.fillBuffer f)
  abortCheck : ∀ {s : State}, P s → P s.abortCheck
  coreShaped : ∀ {s : State} c, P s → P { s with cores := s.cores.modify c RevCore.shapedEvent }
  checkPass : ∀ {s : State} {c : CheckRun}, s.check = some c →
    examine s.cores (s.scenes.get c.scene) c.next = .passed → P s → P (s.endCheckPass c)
  checkFail : ∀ {s : State} {c : CheckRun} {i r}, s.check = some c →
    examine s.cores (s.scenes.get c.scene) c.next = .failed i r → P s → P (s.endCheckFail c i r)
  fire : ∀ {s : State} {k : FrameNo}, s.fires k = true → P s → P (s.fire k)
  endFade : ∀ {s : State}, s.cue.state.fades = true → P s → P s.endFade
  shapeCore : ∀ {s : State} c lengths, s.coreInUse c = false → (clampLengths lengths).items.sum ≤ 16384 → P s →
    P (s.shapeCore c (clampLengths lengths))
  setHeader : ∀ {s : State} {i : Fin 16} p, (s.scenes.get i).state.locked = false → P s → P (s.setHeader i (headerOf p))
  putTaps : ∀ {s : State} {i : Fin 16} {first : Nat} p count, (s.scenes.get i).state.locked = false →
    first ≤ (s.scenes.get i).tapCount → P s → P (s.putTaps i first (tapRecords p count))
  clearScene : ∀ {s : State} {i : Fin 16}, (s.scenes.get i).state.locked = false → P s → P (s.clearScene i)
  passEmpty : ∀ {s : State} {i : Fin 16}, (s.scenes.get i).state.locked = false → (s.scenes.get i).state ≠ .empty →
    s.check = none → (s.scenes.get i).tapCount = 0 → P s →
    P { s with scenes := s.scenes.modify i fun sc => { sc with state := .ready, result := .passed } }
  startCheck : ∀ {s : State} {i : Fin 16} r, (s.scenes.get i).state.locked = false → (s.scenes.get i).state ≠ .empty →
    s.check = none → P s → P { s with
      check := some ⟨i, 0, r⟩, scenes := s.scenes.modify i fun sc => { sc with state := .checking } }
  takeCue : ∀ {s : State} {i : Fin 16} x b, (s.scenes.get i).state ∈ [SceneState.ready, .cued, .outgoing] → P s →
    P (s.takeCue i x b)
  cancelCue : ∀ {s : State}, P s → P s.cancelCue

/-! ## What leaves the stores as they were -/

theorem State.storeView_badReturn (o : Option (List Byte)) (s : State) : (s.badReturn o).storeView = s.storeView := by
  simp [State.storeView, State.badReturn]

/-- R155: a node reset leaves the stores as power-on does. -/
theorem State.storeView_nodeReset (s : State) : s.nodeReset.storeView = (State.powerOn false 0).storeView := rfl

/-! ## What the judgements of scenes, cores and cues leave -/

/-- R101, R103, R104: a scene command acts on a scene that is not locked. -/
theorem onUnlocked_leaves_unlocked {P : State → Prop} {x : Nat} {s : State} {act : Fin 16 → Verdict}
    (h : ∀ i, (s.scenes.get i).state.locked = false → (act i).Leaves P) : (onUnlocked x s act).Leaves P := by
  unfold onUnlocked
  split
  · trivial
  · split
    · trivial
    · rename_i i _ hl
      exact h i (Bool.eq_false_iff.2 hl)

section
variable {P : State → Prop} (hP : KeptByStores P)
include hP

theorem KeptByStores.ignoresLane : IgnoresLane P := fun _ _ _ hs => hP.reads hs rfl

theorem KeptByStores.judgeCoreShape {s : State} (hs : P s) (p : List Byte) : (judgeCoreShape p s).Leaves P := by
  unfold Machine.judgeCoreShape
  split
  · trivial
  · dsimp only
    split
    · trivial
    · rename_i free
      split
      · trivial
      · rename_i fits
        exact hP.shapeCore _ _ (Bool.eq_false_iff.2 free) (Nat.not_lt.1 fits) hs

theorem KeptByStores.judgeTapWrite {s : State} (hs : P s) (p : List Byte) : (judgeTapWrite p s).Leaves P := by
  unfold Machine.judgeTapWrite
  dsimp only
  split
  · trivial
  · refine onUnlocked_leaves_unlocked fun i hl => ?_
    split
    · trivial
    · rename_i near
      exact hP.putTaps _ _ hl (Nat.not_lt.1 near) hs

theorem KeptByStores.judgeSceneCheck {s : State} (hs : P s) (e : Entry) (p : List Byte) :
    (judgeSceneCheck e p s).Leaves P := by
  refine onUnlocked_leaves_unlocked fun i hl => ?_
  split
  · trivial
  · rename_i filled
    split
    · trivial
    · rename_i idle
      have none : s.check = none := by simpa using idle
      unfold Machine.startCheck
      split
      · exact hP.passEmpty hl filled none ‹_› hs
      · exact hP.startCheck _ hl filled none hs

theorem KeptByStores.judgeCue {s : State} (hs : P s) (p : List Byte) : (judgeCue p s).Leaves P := by
  unfold Machine.judgeCue
  split
  · trivial
  · split
    · trivial
    · trivial
    · trivial
    · exact hs
    all_goals
      rename_i st
      exact hP.takeCue _ _ (by simp [st]) hs

/-! ## The frame rows -/

theorem KeptByStores.expect {s : State} (hs : P s) (n : FrameNo) : P (s.expect n) := hP.reads hs rfl

theorem KeptByStores.sendD {s : State} (hs : P s) (o : Option (List Byte)) : P (s.sendD o) := hP.reads hs rfl

theorem KeptByStores.sendU {s : State} (hs : P s) (o : Option (List Byte)) : P (s.sendU o) := hP.reads hs rfl

theorem KeptByStores.lockU {s : State} (hs : P s) (p : PortRx) : P (s.lockU p) := hP.reads hs rfl

/-- R18: a frame period moves the stores by its computation alone. -/
theorem KeptByStores.paceFrame {s : State} (hs : P s) (n : FrameNo) : P (s.paceFrame n) := by
  have counted : P (s.countFrame n) := hP.reads hs (by simp [State.storeView])
  unfold State.paceFrame
  split
  · exact hP.reads (hP.compute (n - 8) counted) rfl
  · exact hP.reads counted rfl

/-- R10, R41: a return frame that is read fills its buffer entry, or leaves the stores. -/
theorem KeptByStores.readReturn {s : State} (hs : P s) (f : Frame) : P (s.readReturn f) := by
  unfold State.readReturn
  dsimp only
  split
  · exact hP.reads (hP.fillBuffer f hs) (by simp [State.storeView])
  · exact hP.reads hs (by simp [State.storeView])

theorem KeptByStores.handleGood {s : State} (hs : P s) (f : Frame) : P (s.handleGood f) := by
  have sent : P (s.sentFrame f) := hP.reads (hP.paceFrame hs f.number) (by simp [State.storeView, State.sentFrame])
  rw [State.handleGood_eq]
  split
  · exact hP.readReturn (hP.sendU sent _) _
  · exact sent

theorem KeptByStores.handleBad {s : State} (hs : P s) (n : FrameNo) (o : Option (List Byte)) : P (s.handleBad n o) := by
  refine hP.reads (hP.paceFrame hs n) ?_
  unfold State.handleBad
  dsimp only
  split <;> simp [State.storeView]

/-- R15: entry into ISOLATED clears the memories. -/
theorem KeptByStores.isolate {s : State} (hs : P s) : P s.isolate := by
  by_cases hc : s.hold.condition = .running
  · exact hP.reads (hP.clearMemories hs) (by simp [State.storeView, State.isolate, hc])
  · rw [State.isolate_other hc]
    exact hP.reads hs rfl

/-- R15: Port U leaves LOCKED: the part becomes ISOLATED, or stays QUIET. -/
theorem KeptByStores.unlockU {s : State} (hs : P s) (p : PortRx) : P (s.unlockU p) := by
  have lost : P (s.unlocking p).isolate := hP.isolate (hP.reads hs rfl)
  rw [State.unlockU_eq]
  exact hP.reads lost (by simp [State.storeView])

theorem KeptByStores.goodOutbound {s : State} (hs : P s) (f : Frame) (o : List Byte) : P (s.goodOutbound f o) := by
  unfold State.goodOutbound
  dsimp only
  split
  · refine hP.expect (hP.handleGood (hP.reads hs ?_) f) _
    simp [State.storeView]
  · split
    · exact hP.expect (hP.handleGood (hP.lockU hs _) f) _
    · refine hP.expect (hP.sendD ?_ _) _
      exact hP.reads hs rfl

theorem KeptByStores.badOutbound {s : State} (hs : P s) (o : Option (List Byte)) : P (s.badOutbound o) := by
  have counted : P s.countBadU := hP.reads hs rfl
  unfold State.badOutbound
  dsimp only
  split
  · split
    · refine hP.expect (hP.handleBad ?_ _ o) _
      exact hP.reads hs rfl
    · exact hP.sendD (hP.unlockU counted _) o
  · refine hP.sendD ?_ o
    exact hP.reads hs rfl

/-- R10, R13: a good return frame is dropped, passed, or read. -/
theorem KeptByStores.goodReturn {s : State} (hs : P s) (f : Frame) (o : List Byte) : P (s.goodReturn f o) := by
  have judged : P (s.setPortD (s.chain.portD.judgeGood s.chain.lockG)) := hP.reads hs (by simp [State.storeView])
  unfold State.goodReturn State.passGoodReturn
  split
  · exact hP.sendU judged _
  · exact judged
  · split
    · exact hP.sendU judged none
    · refine hP.sendU (hP.readReturn ?_ f) _
      exact hP.reads judged rfl

theorem KeptByStores.loseU {s : State} (hs : P s) : P s.loseU := by
  unfold State.loseU
  split
  · exact hs
  · split
    · exact hs
    · exact hP.reads hs rfl
    · exact hP.unlockU hs _

theorem KeptByStores.loseD {s : State} (hs : P s) : P s.loseD := by
  have set : ∀ p, P (s.setPortD p) := fun p => hP.reads hs (by simp [State.storeView])
  unfold State.loseD
  split
  · exact hs
  · exact set _
  · exact set _

theorem KeptByStores.nodeReset (s : State) : P s.nodeReset := hP.reads (hP.powerOn _ _) s.storeView_nodeReset

/-- R54, R111, R151: entry into QUIET aborts a check and clears the memories. -/
theorem KeptByStores.enterQuiet {s : State} (hs : P s) : P s.enterQuiet :=
  hP.reads (hP.clearMemories (hP.abortCheck hs)) (by simp [State.storeView, State.enterQuiet])

/-! ## Every command -/

/-- A law that the operations of `KeptByStores` keep is kept by every row of the pins, the lines and the frames. -/
theorem KeptByStores.frameRows {c : Instr} {s t : State} (hs : P s) (hm : movesView c = true)
    (he : exec c s = .next t) : P t := by
  cases c with
  | powerOnReset lead a =>
    cases he
    exact hP.reads (hP.powerOn lead a) rfl
  | powerOnResetHeld =>
    cases he
    exact hP.reads hs rfl
  | lineActivityAppears p =>
    cases he
    refine State.unlessHeld_keeps hs ?_
    cases p with
    | U =>
      dsimp only
      split
      · exact hs
      · exact hP.reads hs rfl
    | D => exact hP.reads hs rfl
  | lineActivityLost p =>
    cases he
    refine State.unlessHeld_keeps hs ?_
    cases p with
    | U => exact hP.loseU hs
    | D => exact hP.loseD hs
  | frameOriginate b =>
    cases he
    have pulled : P (s.setHoldPulled b) := hP.reads hs rfl
    refine State.unlessHeld_keeps pulled ?_
    split
    · exact hP.reads (hP.handleGood pulled _) rfl
    · exact pulled
  | outboundFrameReceive o b =>
    cases he
    have pulled : P (s.setHoldPulled b) := hP.reads hs rfl
    have found : P (s.setHoldPulled b).findSyncU := hP.reads pulled rfl
    refine State.unlessHeld_keeps pulled ?_
    split
    · exact pulled
    · split
      · exact hP.goodOutbound found _ _
      · exact hP.badOutbound found _
  | syncMissingPeriod p b =>
    cases he
    have pulled : P (s.setHoldPulled b) := hP.reads hs rfl
    refine State.unlessHeld_keeps pulled ?_
    cases p with
    | U =>
      dsimp only
      split
      · exact pulled
      · exact hP.badOutbound pulled _
    | D =>
      dsimp only
      split
      · exact hP.reads pulled (State.storeView_badReturn _ _)
      · exact pulled
  | returnFrameReceive o =>
    cases he
    have found : P s.findSyncD := hP.reads hs rfl
    refine State.unlessHeld_keeps hs ?_
    split
    · exact hs
    · split
      · exact hP.goodReturn found _ _
      · exact hP.reads found (State.storeView_badReturn _ _)
  | discardMarkExpire =>
    cases he
    refine State.unlessHeld_keeps hs ?_
    split
    · exact hP.reads hs rfl
    · exact hs
  | nodeReset t =>
    cases he
    exact State.laneCommand_keeps hP.ignoresLane hs fun _ u _ => hP.nodeReset u
  | quiet t =>
    cases he
    exact State.laneCommand_judged_keeps hP.ignoresLane hs fun _ _ hu => hP.enterQuiet hu
  | wake t =>
    cases he
    refine State.laneCommand_keeps hP.ignoresLane hs fun _ u hu => ?_
    show P u.wake
    unfold State.wake
    split
    · exact hP.nodeReset u
    · exact hu
  | chainSet t =>
    cases he
    exact State.laneCommand_judged_keeps hP.ignoresLane hs fun _ _ hu => hP.reads hu rfl
  | _ => cases hm

/-- The same for the events inside the blocks and the other lane commands. -/
theorem KeptByStores.otherRows {c : Instr} {s t : State} (hs : P s) (hm : movesView c = false)
    (he : exec c s = .next t) : P t := by
  have lane := hP.ignoresLane
  cases c with
  | powerOnReset _ _ | powerOnResetHeld | lineActivityAppears _ | lineActivityLost _ | frameOriginate _
  | outboundFrameReceive _ _ | syncMissingPeriod _ _ | returnFrameReceive _ | discardMarkExpire
  | nodeReset _ | quiet _ | wake _ | chainSet _ => cases hm
  | coreShaped c =>
    cases he
    exact State.whileComputing_keeps hs (hP.coreShaped c hs)
  | checkPass =>
    cases he
    refine State.whileComputing_keeps hs ?_
    split
    · exact hs
    · split
      · exact hP.checkPass ‹_› ‹_› hs
      · exact hs
  | checkFail =>
    cases he
    refine State.whileComputing_keeps hs ?_
    split
    · exact hs
    · split
      · exact hP.checkFail ‹_› ‹_› hs
      · exact hs
      · exact hs
  | cueFire k =>
    cases he
    refine State.whileComputing_keeps hs ?_
    split
    · exact hP.fire ‹_› hs
    · exact hs
  | crossfadeEnd =>
    cases he
    refine State.whileComputing_keeps hs ?_
    split
    · rename_i h
      exact hP.endFade h.1 hs
    · exact hs
  | gateHangExpire i => cases he; exact State.whileComputing_keeps hs (hP.reads hs rfl)
  | quietHoldExpire f => cases he; exact State.whileComputing_keeps hs (hP.reads hs rfl)
  | recoveryStep f => cases he; exact State.whileComputing_keeps hs (hP.reads hs rfl)
  | badKindCommand k t =>
    cases he
    split
    · exact State.laneCommand_keeps lane hs fun _ _ _ => trivial
    · exact hs
  | identify t => cases he; exact State.laneCommand_judged_keeps lane hs fun _ _ hu => hu
  | eventsRead t => cases he; exact State.laneCommand_judged_keeps lane hs fun _ _ hu => hu
  | chainRead t => cases he; exact State.laneCommand_judged_keeps lane hs fun _ _ hu => hu
  | groupRead t => cases he; exact State.laneCommand_judged_keeps lane hs fun _ _ hu => hu
  | cueRead t => cases he; exact State.laneCommand_judged_keeps lane hs fun _ _ hu => hu
  | pickupRead t => cases he; exact State.laneCommand_judged_keeps lane hs fun _ _ hu => judgePickupRead_leaves hu
  | feedRead t => cases he; exact State.laneCommand_judged_keeps lane hs fun _ _ hu => judgeFeedRead_leaves hu
  | coreRead t => cases he; exact State.laneCommand_judged_keeps lane hs fun _ _ hu => judgeCoreRead_leaves hu
  | sceneRead t => cases he; exact State.laneCommand_judged_keeps lane hs fun _ _ hu => judgeSceneRead_leaves hu
  | tapRead t => cases he; exact State.laneCommand_judged_keeps lane hs fun _ _ hu => judgeTapRead_leaves hu
  | guardRead t => cases he; exact State.laneCommand_judged_keeps lane hs fun _ _ hu => judgeGuardRead_leaves hu
  | eventsClear t => cases he; exact State.laneCommand_judged_keeps lane hs fun _ _ hu => hP.reads hu rfl
  | eventsMask t => cases he; exact State.laneCommand_judged_keeps lane hs fun _ _ hu => hP.reads hu rfl
  | groupSet t => cases he; exact State.laneCommand_judged_keeps lane hs fun _ _ hu => hP.reads hu rfl
  | hold t => cases he; exact State.laneCommand_judged_keeps lane hs fun _ _ hu => hP.reads hu rfl
  | resume t => cases he; exact State.laneCommand_judged_keeps lane hs fun _ _ hu => hP.reads hu rfl
  | guardSet t =>
    cases he
    exact State.laneCommand_judged_keeps lane hs fun _ _ hu => hP.reads hu (by simp [State.storeView])
  | patternSet t =>
    cases he
    exact State.laneCommand_judged_keeps lane hs fun _ _ hu => judgePatternSet_leaves fun _ => hP.reads hu rfl
  | patternRead t =>
    cases he
    exact State.laneCommand_judged_keeps lane hs fun _ _ hu => judgePatternRead_leaves hu (hP.reads hu rfl)
  | pickupSet t =>
    cases he
    exact State.laneCommand_judged_keeps lane hs fun _ _ hu => judgePickupSet_leaves
      fun _ _ _ _ _ _ _ _ _ => hP.reads hu rfl
  | feedSet t =>
    cases he
    exact State.laneCommand_judged_keeps lane hs fun _ _ hu => judgeFeedSet_leaves fun _ _ _ => hP.reads hu rfl
  | coreShape t =>
    cases he
    exact State.laneCommand_judged_keeps lane hs fun p _ hu => hP.judgeCoreShape hu p
  | sceneHead t =>
    cases he
    exact State.laneCommand_judged_keeps lane hs fun p _ hu => onUnlocked_leaves_unlocked
      fun _ hl => hP.setHeader p hl hu
  | tapWrite t =>
    cases he
    refine State.laneCommand_keeps lane hs fun e _ hu => ?_
    split
    · trivial
    · exact hP.judgeTapWrite hu e.params
  | sceneClear t =>
    cases he
    exact State.laneCommand_judged_keeps lane hs fun _ _ hu => onUnlocked_leaves_unlocked
      fun _ hl => hP.clearScene hl hu
  | sceneCheck t =>
    cases he
    exact State.laneCommand_keeps lane hs fun e _ hu => judged_leaves (hP.judgeSceneCheck hu e e.params)
  | cue t =>
    cases he
    exact State.laneCommand_judged_keeps lane hs fun p _ hu => hP.judgeCue hu p
  | cueCancel t => cases he; exact State.laneCommand_judged_keeps lane hs fun _ _ hu => hP.cancelCue hu

/-- Every step keeps a law that the operations of `KeptByStores` keep. -/
theorem KeptByStores.step {s t : State} (hs : P s) (h : step s = .next t) : P t := by
  refine step_keeps_of_exec_keeps (P := P) (fun _ _ hu => hP.reads hu rfl) (fun c u v hu hc => ?_) hs h
  cases hm : movesView c with
  | true => exact hP.frameRows hu hm hc
  | false => exact hP.otherRows hu hm hc

end

end Sys2Proof.Machine
end

section
/-!
PROOFS. Settles O11: every step keeps the memories canonical, the cores lawful, the absorptions below unity and the
crossfade weight in range (R41, R52, R75, R77, R80, R86, R90, R93, R124). One lemma per operation on a core, then the
state's operations. What a cue arms is bounded by the stored dampings, which the invariant carries (R97).
-/

namespace Sys2Proof.Machine

/-! ## Absorptions and their interpolation (R87 to R90, R93) -/

/-- R89: the entries of the coarse table, unity first. -/
theorem coarse_le : ∀ i < 64, coarse i ≤ 8388608 ∧ (i ≠ 0 → coarse i ≤ 8298246) := by decide

/-- R89: the entries of the fine table, unity first. -/
theorem fine_le : ∀ j < 64, fine j ≤ 8388608 ∧ (j ≠ 0 → fine j ≤ 8387189) := by decide

/-- R90: an attenuation of at least one 4096th of a halving absorbs. -/
theorem absorptionOfLoss_le {u : Nat} (h : 1 ≤ u) : absorptionOfLoss u ≤ 8387189 := by
  obtain ⟨hc, hc'⟩ := coarse_le (u % 4096 / 64) (by omega)
  obtain ⟨hf, hf'⟩ := fine_le (u % 4096 % 64) (by omega)
  unfold absorptionOfLoss shiftRounded
  dsimp only
  by_cases low : u < 4096
  · have product : coarse (u % 4096 / 64) * fine (u % 4096 % 64) ≤ 8388608 * 8387189 := by
      by_cases hj : u % 4096 % 64 = 0
      · exact Nat.mul_comm 8387189 8388608 ▸ Nat.mul_le_mul ((hc' (by omega)).trans (by omega)) hf
      · exact Nat.mul_le_mul hc (hf' hj)
    rw [Nat.div_eq_of_lt low, Nat.pow_zero, Nat.div_one]
    omega
  · have product : coarse (u % 4096 / 64) * fine (u % 4096 % 64) ≤ 8388608 * 8388608 := Nat.mul_le_mul hc hf
    obtain ⟨q, hq⟩ : ∃ q, u / 4096 = q + 1 := ⟨u / 4096 - 1, by omega⟩
    have double : 2 ^ (q + 1) = 2 * 2 ^ q := by omega
    have pos : 1 ≤ 2 ^ q := Nat.one_le_two_pow
    rw [hq, double]
    refine Nat.le_of_lt_succ ((Nat.div_lt_iff_lt_mul (by omega)).2 ?_)
    omega

/-- R90: no line passes a sample on unattenuated. -/
theorem absorption_le (l t : Nat) : absorption l t ≤ 8387189 := absorptionOfLoss_le (Nat.le_max_left ..)

/-- R93: an interpolation stays within any bound of its ends. -/
theorem crossfadeNat_le {old new w bound : Nat} (ho : old ≤ bound) (hn : new ≤ bound) (hw : w ≤ 8192) :
    crossfadeNat old new w ≤ bound := by
  have h1 : old * (8192 - w) ≤ bound * (8192 - w) := Nat.mul_le_mul_right _ ho
  have h2 : new * w ≤ bound * w := Nat.mul_le_mul_right _ hn
  have h3 : bound * (8192 - w) + bound * w = bound * 8192 := by rw [← Nat.mul_add, Nat.sub_add_cancel hw]
  unfold crossfadeNat
  omega

/-- R91: the targets of a header are lawful when its damping is. -/
theorem targetsFor_lawful (lengths : Bank 8 Nat) (decay : Nat) {damping : Nat} (h : damping ≤ 240) :
    (targetsFor lengths decay damping).Lawful :=
  ⟨fun l => by simpa [targetsFor] using absorption_le _ _, h⟩

/-- R93: so are the values in use, at every weight. -/
theorem RevCore.Lawful.formInUse {c : RevCore} (h : c.Lawful) {w : Option Nat} (hw : ∀ x ∈ w, x ≤ 8192) :
    (c.formInUse w).Lawful := by
  obtain ⟨-, -, -, -, -, -, -, active, outgoing, -, -⟩ := h
  cases w with
  | none => exact active
  | some w =>
    have weight : w ≤ 8192 := hw w rfl
    refine ⟨fun l => ?_, crossfadeNat_le outgoing.2 active.2 weight⟩
    simpa [RevCore.formInUse] using crossfadeNat_le (outgoing.1 l) (active.1 l) weight

/-! ## One core -/

/-- R75, R83: the oldest sample of a line lies within the core's memory. -/
theorem RevCore.Lawful.position_lt {c : RevCore} (h : c.Lawful) (l : Fin 8) : c.position l < 16384 := by
  obtain ⟨geometry, sum, -⟩ := h
  have prefixSum : (c.lengths.items.take (l.val + 1)).sum = c.lineBase l + c.lengths.get l := by
    rw [List.sum_take_succ _ _ (by rw [c.lengths.size]; exact l.isLt)]
    rfl
  have whole : (c.lengths.items.take (l.val + 1)).sum ≤ c.lengths.items.sum :=
    (List.take_sublist ..).sum_le_sum (by simp)
  have inside := (geometry l).2.2
  unfold RevCore.position
  omega

/-- Writes at positions within a memory keep it canonical and within its size. -/
theorem SampleMem.foldl_write {ι : Type} {size : Nat} (pos : ι → Nat) (val : ι → Sample) (hp : ∀ i, pos i < size)
    (is : List ι) (m : SampleMem) (hm : m.wf = true) (hb : ∀ c ∈ m, c.1 < size) :
    (is.foldl (fun m i => m.write (pos i) (val i)) m).wf = true ∧
    ∀ c ∈ is.foldl (fun m i => m.write (pos i) (val i)) m, c.1 < size := by
  induction is generalizing m with
  | nil => exact ⟨hm, hb⟩
  | cons i is ih => exact ih _ (SampleMem.write_wf hm _ _) (SampleMem.write_bounded hb (hp i) _)

/-- R86: every line written and advanced. -/
theorem RevCore.Lawful.runLines {c : RevCore} (h : c.Lawful) {t : Targets} (ht : t.Lawful) (inj : Fin 8 → Int) :
    (c.runLines t inj).Lawful := by
  have positions := h.position_lt
  obtain ⟨geometry, sum, wf, bounded, unshaped, shaping, shaped, active, outgoing, -, armed⟩ := h
  obtain ⟨written, inside⟩ := SampleMem.foldl_write c.position (fun l => toSample (c.lineInput t inj l)) positions
    (List.finRange 8) c.mem wf bounded
  refine ⟨fun l => ?_, sum, written, inside, unshaped, shaping, shaped, active, outgoing, ht, armed⟩
  obtain ⟨lo, hi, -⟩ := geometry l
  refine ⟨lo, hi, ?_⟩
  simp only [RevCore.runLines, Bank.get_ofFn]
  split <;> omega

/-- R80: a clearing computation of a SHAPING core, the eighth of which makes it SHAPED. -/
theorem RevCore.Lawful.clearStep {c : RevCore} (h : c.Lawful) (hs : c.state = .shaping) : c.clearStep.Lawful := by
  obtain ⟨geometry, sum, wf, bounded, -, shaping, -, active, outgoing, inUse, armed⟩ := h
  have count := shaping hs
  refine ⟨geometry, sum, SampleMem.clearRange_wf wf _ _, SampleMem.clearRange_bounded bounded _ _, ?_, ?_, ?_, active,
    outgoing, inUse, armed⟩ <;>
  · simp only [RevCore.clearStep]
    split <;> simp <;> omega

/-- R80, R82: a computation of a core, by its state. -/
theorem RevCore.Lawful.compute {c : RevCore} (h : c.Lawful) {w : Option Nat} (hw : ∀ x ∈ w, x ≤ 8192)
    (inj : Fin 8 → Int) : (c.compute w inj).Lawful := by
  unfold RevCore.compute
  split
  · exact h
  · exact h.clearStep ‹_›
  · exact h.runLines (h.formInUse hw) inj

theorem RevCore.Lawful.shapedEvent {c : RevCore} (h : c.Lawful) : c.shapedEvent.Lawful := by
  unfold RevCore.shapedEvent
  split
  · rename_i hs
    exact h.clearStep hs.1
  · exact h

/-- R77, R78: a new shape whose lines fit the core's memory. -/
theorem RevCore.Lawful.reshape {c : RevCore} (h : c.Lawful) (lengths : Fin 8 → Nat)
    (fits : (clampLengths lengths).items.sum ≤ 16384) : (c.reshape (clampLengths lengths)).Lawful := by
  obtain ⟨-, -, wf, bounded, -, -, -, active, outgoing, inUse, armed⟩ := h
  refine ⟨fun l => ?_, fits, wf, bounded, nofun, fun _ => Nat.zero_lt_succ _, nofun, active, outgoing, inUse, armed⟩
  obtain ⟨lo, hi⟩ := clamp_mem (lo := 64) (hi := 4095) (by omega) (lengths l)
  simp only [RevCore.reshape, clampLengths, Bank.get_ofFn, Bank.get_fill]
  exact ⟨lo, hi, by omega⟩

/-- R91: the targets armed for a header. -/
theorem RevCore.Lawful.arm {c : RevCore} (h : c.Lawful) {d : Header} {i : Fin 4} (hd : d.damping.get i ≤ 240) :
    (c.arm d i).Lawful := by
  obtain ⟨geometry, sum, wf, bounded, unshaped, shaping, shaped, active, outgoing, inUse, -⟩ := h
  refine ⟨geometry, sum, wf, bounded, unshaped, shaping, shaped, active, outgoing, inUse, fun t ht => ?_⟩
  cases ht
  exact targetsFor_lawful _ _ hd

theorem RevCore.Lawful.disarm {c : RevCore} (h : c.Lawful) : c.disarm.Lawful := by
  obtain ⟨geometry, sum, wf, bounded, unshaped, shaping, shaped, active, outgoing, inUse, -⟩ := h
  exact ⟨geometry, sum, wf, bounded, unshaped, shaping, shaped, active, outgoing, inUse, nofun⟩

/-- R92: the target sets at fire. -/
theorem RevCore.Lawful.fire {c : RevCore} (h : c.Lawful) : c.fire.Lawful := by
  obtain ⟨geometry, sum, wf, bounded, unshaped, shaping, shaped, active, -, inUse, armed⟩ := h
  refine ⟨geometry, sum, wf, bounded, unshaped, shaping, shaped, ?_, active, inUse, nofun⟩
  simp only [RevCore.fire]
  cases ha : c.armed with
  | none => exact Targets.zero_lawful
  | some t => exact armed t ha

theorem RevCore.Lawful.endFade {c : RevCore} (h : c.Lawful) : c.endFade.Lawful := by
  obtain ⟨geometry, sum, wf, bounded, unshaped, shaping, shaped, active, -, inUse, armed⟩ := h
  exact ⟨geometry, sum, wf, bounded, unshaped, shaping, shaped, active, Targets.zero_lawful, inUse, armed⟩

/-- R94: the memories of a core cleared. -/
theorem RevCore.Lawful.silence {c : RevCore} (h : c.Lawful) : c.silence.Lawful := by
  obtain ⟨geometry, sum, -, -, unshaped, shaping, shaped, active, outgoing, inUse, armed⟩ := h
  exact ⟨geometry, sum, rfl, nofun, unshaped, shaping, shaped, active, outgoing, inUse, armed⟩

/-! ## The headers of the scenes -/

/-- A change that leaves a part of one thing leaves that part of every thing. -/
theorem Bank.get_modify_part {n : Nat} {α β : Type} (g : α → β) (b : Bank n α) (i : Fin n) {f : α → α}
    (h : ∀ a, g (f a) = g a) (j : Fin n) : g ((b.modify i f).get j) = g (b.get j) := by
  rw [Bank.get_modify]
  split
  · exact h _
  · rfl

/-- R97, R103: the headers of the scenes stand in `t` as in `s`. -/
def State.SameHeaders (s t : State) : Prop := ∀ i, (t.scenes.get i).header = (s.scenes.get i).header

theorem State.SameHeaders.of_scenes {s t : State} (h : t.scenes = s.scenes) : s.SameHeaders t := fun _ => by rw [h]

theorem State.SameHeaders.trans {s t u : State} (h : s.SameHeaders t) (k : t.SameHeaders u) : s.SameHeaders u :=
  fun i => (k i).trans (h i)

theorem State.sameHeaders_endCheckPass (c : CheckRun) (s : State) : s.SameHeaders (s.endCheckPass c) := fun i => by
  simp only [State.endCheckPass, State.pushReply?_frame]
  exact Bank.get_modify_part Scene.header _ _ (fun _ => by rfl) i

theorem State.sameHeaders_endCheckFail (c : CheckRun) (n : Nat) (r : CheckReason) (s : State) :
    s.SameHeaders (s.endCheckFail c n r) := fun i => by
  simp only [State.endCheckFail, State.pushReply?_frame]
  exact Bank.get_modify_part Scene.header _ _ (fun _ => by rfl) i

theorem State.sameHeaders_abortCheck (s : State) : s.SameHeaders s.abortCheck := fun i => by
  unfold State.abortCheck
  split
  · rfl
  · simp only [State.pushReply?_frame]
    exact Bank.get_modify_part Scene.header _ _ (fun _ => by rfl) i

theorem State.sameHeaders_abortCheckOf (j : Fin 16) (s : State) : s.SameHeaders (s.abortCheckOf j) := by
  unfold State.abortCheckOf
  split
  · exact .of_scenes rfl
  · split
    · exact s.sameHeaders_abortCheck
    · exact .of_scenes rfl

theorem State.sameHeaders_advanceCheck (s : State) : s.SameHeaders s.advanceCheck := by
  unfold State.advanceCheck
  split
  · exact .of_scenes rfl
  · split
    · exact s.sameHeaders_endCheckFail _ _ _
    · exact s.sameHeaders_endCheckPass _
    · exact .of_scenes rfl

theorem State.sameHeaders_shapeCore (c : Fin 4) (lengths : Bank 8 Nat) (s : State) :
    s.SameHeaders (s.shapeCore c lengths) := by
  have aborted : s.SameHeaders (s.abortCheckUsing c) := by
    unfold State.abortCheckUsing
    split
    · exact .of_scenes rfl
    · split
      · exact s.sameHeaders_abortCheck
      · exact .of_scenes rfl
  refine aborted.trans fun i => ?_
  simp only [State.shapeCore, demoteScenes, Bank.get_map]
  split <;> rfl

theorem State.sameHeaders_putTaps (i : Fin 16) (first : Nat) (records : List Tap) (s : State) :
    s.SameHeaders (s.putTaps i first records) :=
  (s.sameHeaders_abortCheckOf i).trans fun j => Bank.get_modify_part Scene.header _ i (fun _ => by rfl) j

theorem State.sameHeaders_fireTarget (t : Fin 16) (k : FrameNo) (s : State) : s.SameHeaders (s.fireTarget t k) := by
  have scenes : (s.fireTarget t k).scenes = fireScenes t s.scenes := by
    unfold State.fireTarget
    dsimp only
    split <;> rfl
  intro i
  rw [scenes, fireScenes, Bank.get_mapIdx]
  split
  · rfl
  · split <;> rfl

theorem State.sameHeaders_endFade (s : State) : s.SameHeaders s.endFade := fun i => by
  simp only [State.endFade, endFadeScenes, Bank.get_mapIdx]
  split <;> rfl

/-- R100, R118, R120: a released target keeps its header. -/
theorem releaseTarget_header (target : Option (Fin 16)) (scenes : Bank 16 Scene) (i : Fin 16) :
    ((releaseTarget target scenes).get i).header = (scenes.get i).header := by
  unfold releaseTarget
  split
  · rfl
  · exact Bank.get_modify_part Scene.header _ _ (fun sc => by split <;> rfl) i

theorem armScene_header (j : Fin 16) (scenes : Bank 16 Scene) (i : Fin 16) :
    ((armScene j scenes).get i).header = (scenes.get i).header :=
  Bank.get_modify_part Scene.header _ _ (fun sc => by split <;> rfl) i

/-! ## The invariant -/

/-- R97: the memory law, and every stored damping in range: a header's damping is what the next cue arms. -/
def State.StoreLaw (s : State) : Prop := s.MemoryLaw ∧ ∀ i c, (s.scenes.get i).header.damping.get c ≤ 240

/-- R75, R91, R124: the cores, the crossfade weight and the stored dampings are lawful: all that a cue moves. -/
def State.CoreLaw (s : State) : Prop :=
  (∀ c, (s.cores.get c).Lawful) ∧ s.cue.weight ≤ 8192 ∧ ∀ i c, (s.scenes.get i).header.damping.get c ≤ 240

/-- R41, R52: the delay lines and the valid buffer entries are lawful. -/
def State.BufferLaw (s : State) : Prop :=
  (∀ i, (s.delay.get i).wf = true ∧ ∀ p ∈ s.delay.get i, p.1 < 32768) ∧
  ∀ i, (s.buffer.get i).valid = true → turnOf (s.buffer.get i).tag = i

theorem State.storeLaw_iff (s : State) : s.StoreLaw ↔ s.BufferLaw ∧ s.CoreLaw := by
  unfold State.StoreLaw State.BufferLaw State.CoreLaw State.MemoryLaw
  tauto

theorem State.BufferLaw.of_eq {s t : State} (h : s.BufferLaw) (hd : t.delay = s.delay) (hb : t.buffer = s.buffer) :
    t.BufferLaw := by
  unfold State.BufferLaw at h ⊢
  rwa [hd, hb]

theorem State.CoreLaw.of_headers {s t : State} (h : s.CoreLaw) (hc : ∀ c, (t.cores.get c).Lawful)
    (hw : t.cue.weight ≤ 8192) (hh : s.SameHeaders t) : t.CoreLaw :=
  ⟨hc, hw, fun i c => by rw [hh i]; exact h.2.2 i c⟩

/-- What moves neither the memories, the cores, the weight nor a header keeps the invariant. -/
theorem State.StoreLaw.of_headers {s t : State} (h : s.StoreLaw) (hd : t.delay = s.delay) (hb : t.buffer = s.buffer)
    (hc : t.cores = s.cores) (hq : t.cue = s.cue) (hh : s.SameHeaders t) : t.StoreLaw := by
  rw [State.storeLaw_iff] at h ⊢
  exact ⟨h.1.of_eq hd hb, h.2.of_headers (by rw [hc]; exact h.2.1) (by rw [hq]; exact h.2.2.1) hh⟩

/-! ## A computation -/

/-- R92, R122: a fire takes the armed targets, and the weight starts at 0. -/
theorem State.CoreLaw.fire {s : State} (h : s.CoreLaw) (k : FrameNo) : (s.fire k).CoreLaw := by
  unfold State.fire
  split
  · rename_i t _
    have moved : (s.fireTarget t k).cores = s.cores.map RevCore.fire ∧ (s.fireTarget t k).cue.weight = 0 := by
      unfold State.fireTarget
      dsimp only
      split <;> exact ⟨rfl, rfl⟩
    refine h.of_headers (fun c => ?_) (moved.2 ▸ Nat.zero_le _) (s.sameHeaders_fireTarget t k)
    rw [moved.1, Bank.get_map]
    exact (h.1 c).fire
  · exact h

theorem State.CoreLaw.endFade {s : State} (h : s.CoreLaw) : s.endFade.CoreLaw := by
  refine h.of_headers (fun c => ?_) (Nat.le_refl _) s.sameHeaders_endFade
  simp only [State.endFade, Bank.get_map]
  exact (h.1 c).endFade

theorem State.CoreLaw.testCue {s : State} (h : s.CoreLaw) (k : FrameNo) : (s.testCue k).CoreLaw := by
  unfold State.testCue
  split
  · exact h.fire k
  · split <;> exact h

/-- R124, R125: the weight does not pass 8192. -/
theorem State.CoreLaw.tickFade {s : State} (h : s.CoreLaw) (fired : Bool) : (s.tickFade fired).CoreLaw := by
  have raised : State.CoreLaw { s with cue := s.cue.raise } := ⟨h.1, Nat.min_le_left .., h.2.2⟩
  unfold State.tickFade
  split
  · dsimp only
    split
    · exact raised.endFade
    · exact raised
  · exact h

theorem State.CoreLaw.rampTick {s : State} (h : s.CoreLaw) (fired : Bool) : (s.rampTick fired).CoreLaw := by
  have gated : State.CoreLaw (State.tickGates (State.formHold s.tickLevel)) := by
    simpa [State.CoreLaw] using h
  exact gated.tickFade fired

theorem State.CoreLaw.beginComputation {s : State} (h : s.CoreLaw) (k : FrameNo) : (s.beginComputation k).CoreLaw := by
  have tested : (s.sampleHold.testCue k).CoreLaw := State.CoreLaw.testCue (s := s.sampleHold) h k
  by_cases ht : k.toNat % 48 = 0
  · rw [s.beginComputation_tick k ht]
    exact tested.rampTick _
  · rw [s.beginComputation_between k ht]
    exact tested

/-- R80, R82: the cores run at the weight that the tick has left. -/
theorem State.CoreLaw.runSamples {s : State} (h : s.CoreLaw) (k : FrameNo) : (s.runSamples k).CoreLaw := by
  have weight : ∀ x ∈ (s.runPickups k).fadeWeight, x ≤ 8192 := by
    intro x hx
    simp only [State.fadeWeight, State.runPickups_frame] at hx
    split at hx
    · cases hx
      exact h.2.1
    · cases hx
  have headers : s.SameHeaders (s.runSamples k) := by
    have counted : s.SameHeaders ((s.runPickups k).countFeedClips ((s.runPickups k).feedClips k)) :=
      .of_scenes (by simp)
    exact (counted.trans (State.sameHeaders_advanceCheck _)).trans (.of_scenes (by simp [State.runSamples]))
  refine h.of_headers (fun c => ?_) (by simpa using h.2.1) headers
  have cores : (s.runSamples k).cores = s.cores.mapIdx fun i core =>
      core.compute (s.runPickups k).fadeWeight ((s.runPickups k).injection k i) := by
    simp [State.runSamples, State.runCores]
  rw [cores, Bank.get_mapIdx]
  exact (h.1 c).compute weight _

/-- R52: each delay line is written at one position within it. -/
theorem State.BufferLaw.compute {s : State} (h : s.BufferLaw) (k : FrameNo) : (s.compute k).BufferLaw := by
  obtain ⟨delay, buffer⟩ := h
  refine ⟨fun i => ?_, by simpa using buffer⟩
  rw [(s.compute_frame_samples k).2.2.1, ((s.beginComputation k).runSamples_pickups k i).2,
    (s.beginComputation_frame k).2.2.2.1]
  exact ⟨SampleMem.write_wf (delay i).1 _ _, SampleMem.write_bounded (delay i).2 (Nat.mod_lt _ (by omega)) _⟩

/-- R18: a computation keeps the invariant. -/
theorem State.StoreLaw.compute {s : State} (h : s.StoreLaw) (k : FrameNo) : (s.compute k).StoreLaw := by
  rw [State.storeLaw_iff] at h ⊢
  have samples := (h.2.beginComputation k).runSamples k
  refine ⟨h.1.compute k, ?_⟩
  by_cases ht : k.toNat % 48 = 0
  · rw [s.compute_tick k ht]
    simpa [State.CoreLaw] using samples
  · rw [s.compute_between k ht]
    exact samples

/-! ## The other operations -/

/-- R54, R94: the memories cleared. -/
theorem State.StoreLaw.clearMemories {s : State} (h : s.StoreLaw) : s.clearMemories.StoreLaw := by
  obtain ⟨⟨-, -, cores, weight⟩, dampings⟩ := h
  refine ⟨⟨fun i => ?_, fun i hv => ?_, fun c => ?_, weight⟩, dampings⟩
  · rw [State.clearMemories_delay, Bank.get_fill]
    exact ⟨rfl, nofun⟩
  · rw [State.clearMemories_buffer, Bank.get_fill] at hv
    cases hv
  · rw [State.clearMemories_cores, Bank.get_map]
    exact (cores c).silence

/-- R41: a return frame fills the entry of its number. -/
theorem State.StoreLaw.fillBuffer {s : State} (h : s.StoreLaw) (f : Frame) : (s.fillBuffer f).StoreLaw := by
  obtain ⟨⟨delay, buffer, cores, weight⟩, dampings⟩ := h
  refine ⟨⟨delay, fun i hv => ?_, cores, weight⟩, dampings⟩
  simp only [State.fillBuffer, Bank.get_set] at hv ⊢
  split
  · assumption
  · rename_i other
    rw [if_neg other] at hv
    exact buffer i hv

/-- R78, R79: one core takes a shape that fits. -/
theorem State.StoreLaw.shapeCore {s : State} (h : s.StoreLaw) (c : Fin 4) (lengths : Fin 8 → Nat)
    (fits : (clampLengths lengths).items.sum ≤ 16384) : (s.shapeCore c (clampLengths lengths)).StoreLaw := by
  rw [State.storeLaw_iff] at h ⊢
  refine ⟨h.1.of_eq (by simp) (by simp), h.2.of_headers ?_ (by simpa using h.2.2.1) (s.sameHeaders_shapeCore c _)⟩
  have cores : (s.shapeCore c (clampLengths lengths)).cores =
      s.cores.modify c (RevCore.reshape (clampLengths lengths)) := by
    simp [State.shapeCore]
  rw [cores]
  exact Bank.forall_modify (P := fun _ => RevCore.Lawful) h.2.1 ((h.2.1 c).reshape lengths fits)

/-- R97: a header as stored has its dampings in range. -/
theorem headerOf_damping_le (p : List Byte) (c : Fin 4) : (headerOf p).damping.get c ≤ 240 := by
  simp only [headerOf, Bank.get_ofFn]
  exact Nat.min_le_left ..

/-- R103, R104: a scene replaced by one whose dampings are in range. -/
theorem State.StoreLaw.replaceScene {s t : State} (h : s.StoreLaw) {i : Fin 16} (hd : t.delay = s.delay)
    (hb : t.buffer = s.buffer) (hc : t.cores = s.cores) (hq : t.cue = s.cue)
    (own : ∀ c, (t.scenes.get i).header.damping.get c ≤ 240)
    (others : ∀ j, j ≠ i → (t.scenes.get j).header = (s.scenes.get j).header) : t.StoreLaw := by
  obtain ⟨memory, dampings⟩ := h
  refine ⟨?_, fun j c => ?_⟩
  · unfold State.MemoryLaw
    rwa [hd, hb, hc, hq]
  · by_cases hj : j = i
    · exact hj ▸ own c
    · rw [others j hj]
      exact dampings j c

theorem State.StoreLaw.setHeader {s : State} (h : s.StoreLaw) (i : Fin 16) (p : List Byte) :
    (s.setHeader i (headerOf p)).StoreLaw := by
  refine h.replaceScene (i := i) (by simp) (by simp) (by simp) (by simp) (fun c => ?_) fun j hj => ?_
  · simp only [State.setHeader, Bank.get_modify_self]
    exact headerOf_damping_le p c
  · simp only [State.setHeader, Bank.get_modify_of_ne _ hj]
    exact s.sameHeaders_abortCheckOf i j

theorem State.StoreLaw.clearScene {s : State} (h : s.StoreLaw) (i : Fin 16) : (s.clearScene i).StoreLaw := by
  refine h.replaceScene (i := i) (by simp) (by simp) (by simp) (by simp) (fun c => ?_) fun j hj => ?_
  · simp only [State.clearScene, Bank.get_set_self]
    exact Scene.reset_lawful.1.2.2.2 c
  · simp only [State.clearScene, Bank.get_set_of_ne _ hj]
    exact s.sameHeaders_abortCheckOf i j

/-- R91, R117: a cue arms every core from a stored header. -/
theorem State.StoreLaw.armCue {s : State} (h : s.StoreLaw) (i : Fin 16) (x : FrameNo) (b : Bool) :
    (s.armCue i x b).StoreLaw := by
  rw [State.storeLaw_iff] at h ⊢
  refine ⟨h.1, h.2.of_headers (fun c => ?_) h.2.2.1 fun j => armScene_header i s.scenes j⟩
  simp only [State.armCue, Bank.get_mapIdx]
  exact (h.2.1 c).arm (h.2.2.2 i c)

theorem State.StoreLaw.takeCue {s : State} (h : s.StoreLaw) (i : Fin 16) (x : FrameNo) (b : Bool) :
    (s.takeCue i x b).StoreLaw := by
  have released : State.StoreLaw { s with scenes := releaseTarget s.cue.target s.scenes } :=
    h.of_headers rfl rfl rfl rfl fun j => releaseTarget_header s.cue.target s.scenes j
  unfold State.takeCue
  split
  · split
    · exact h.armCue i x b
    · exact released.armCue i x b
  · exact h.armCue i x b

/-- R91, R120: a cancelled cue disarms every core. -/
theorem State.StoreLaw.cancelCue {s : State} (h : s.StoreLaw) : s.cancelCue.StoreLaw := by
  unfold State.cancelCue
  split
  · rw [State.storeLaw_iff] at h ⊢
    refine ⟨h.1, h.2.of_headers (fun c => ?_) h.2.2.1 fun j => releaseTarget_header s.cue.target s.scenes j⟩
    rw [Bank.get_map]
    exact (h.2.1 c).disarm
  · exact h

/-- R41, R75, R97, R124: the invariant is kept by every operation that moves what it reads. -/
theorem keptByStores_storeLaw : KeptByStores State.StoreLaw where
  reads hs hv := by
    simp only [State.storeView, Prod.mk.injEq] at hv
    obtain ⟨delay, buffer, cores, scenes, -, cue⟩ := hv
    exact hs.of_headers delay buffer cores cue (.of_scenes scenes)
  powerOn lead a := ⟨State.powerOn_memoryLaw lead a, fun i c => by
    rw [State.powerOn_scene]
    exact Scene.reset_lawful.1.2.2.2 c⟩
  compute k hs := hs.compute k
  clearMemories hs := hs.clearMemories
  fillBuffer f hs := hs.fillBuffer f
  abortCheck hs := hs.of_headers (by simp) (by simp) (by simp) (by simp) (State.sameHeaders_abortCheck _)
  coreShaped c hs := by
    obtain ⟨⟨delay, buffer, cores, weight⟩, dampings⟩ := hs
    have shaped := Bank.forall_modify (P := fun _ => RevCore.Lawful) cores (cores c).shapedEvent
    exact ⟨⟨delay, buffer, shaped, weight⟩, dampings⟩
  checkPass _ _ hs := hs.of_headers (by simp) (by simp) (by simp) (by simp) (State.sameHeaders_endCheckPass _ _)
  checkFail _ _ hs := hs.of_headers (by simp) (by simp) (by simp) (by simp) (State.sameHeaders_endCheckFail _ _ _ _)
  fire _ hs := by
    rw [State.storeLaw_iff] at hs ⊢
    exact ⟨hs.1.of_eq (by simp) (by simp), hs.2.fire _⟩
  endFade _ hs := by
    rw [State.storeLaw_iff] at hs ⊢
    exact ⟨hs.1, hs.2.endFade⟩
  shapeCore c lengths _ fits hs := hs.shapeCore c lengths fits
  setHeader p _ hs := hs.setHeader _ p
  putTaps _ _ _ _ hs := hs.of_headers (by simp) (by simp) (by simp) (by simp) (State.sameHeaders_putTaps _ _ _ _)
  clearScene _ hs := hs.clearScene _
  passEmpty _ _ _ _ hs := hs.of_headers rfl rfl rfl rfl
    fun i => Bank.get_modify_part Scene.header _ _ (fun _ => by rfl) i
  startCheck _ _ _ _ hs := hs.of_headers rfl rfl rfl rfl
    fun i => Bank.get_modify_part Scene.header _ _ (fun _ => by rfl) i
  takeCue x b _ hs := hs.takeCue _ x b
  cancelCue hs := hs.cancelCue

/-- Settles O11: the scene law bounds the stored dampings, and the invariant is kept by every step. -/
theorem stepKeepsMemoryLaw : Obligations.StepKeepsMemoryLaw := by
  intro s t memory ⟨lawful, _⟩ h
  have start : s.StoreLaw := ⟨memory, fun i => (lawful i).1.2.2.2⟩
  exact (keptByStores_storeLaw.step start h).1

end Sys2Proof.Machine
end

section
/-!
PROOFS. Settles O31: the pickups' part of a computation: the input, the concealment, the gated sample and the one
position written in each delay line (R42, R43, R46, R47, R52, R53).
-/

namespace Sys2Proof.Machine

/-! ## The input (R42, R43) -/

theorem State.entryFound_iff (k : FrameNo) (s : State) : s.entryFound k = true ↔
    (s.buffer.get (turnOf k)).valid = true ∧ (s.buffer.get (turnOf k)).tag = k := by
  unfold State.entryFound
  simp only [Bool.and_eq_true, beq_iff_eq]
  rfl

theorem State.entryFound_eq_false_iff (k : FrameNo) (s : State) : s.entryFound k = false ↔
    (s.buffer.get (turnOf k)).valid = false ∨ (s.buffer.get (turnOf k)).tag ≠ k := by
  rw [← Bool.not_eq_true, State.entryFound_iff, not_and_or, Bool.not_eq_true]

section
variable {k : FrameNo} {s : State} {i : Fin 48}

theorem State.inputOf_no_slot (h : (s.pickups.get i).slot = none) : s.inputOf k i = 0 := by
  simp [State.inputOf, Pickup.input, h]

/-- R42: a pickup with a slot takes its sample of the entry that is found. -/
theorem State.inputOf_found (h : (s.pickups.get i).slot ≠ none) (hf : s.entryFound k = true) :
    s.inputOf k i = (s.buffer.get (turnOf k)).samples.get i := by
  obtain ⟨x, hx⟩ := Option.ne_none_iff_exists'.1 h
  simp only [State.inputOf, Pickup.input, hx, hf, if_true]
  rfl

/-- R43: a concealed computation takes the held sample. -/
theorem State.inputOf_concealed (h : (s.pickups.get i).slot ≠ none) (hf : s.entryFound k = false) :
    s.inputOf k i = (s.pickups.get i).held := by
  obtain ⟨x, hx⟩ := Option.ne_none_iff_exists'.1 h
  simp [State.inputOf, Pickup.input, hx, hf]

end

/-! ## What the part leaves -/

section
variable (k : FrameNo) (s : State)

/-- R43: a computation without its entry is counted, and latches LATE_RETURN. -/
theorem State.runPickups_events : (s.runPickups k).events = { s.events with
    latch := s.events.latch ||| if !s.entryFound k then Event.word .lateReturn else 0
    concealed := min top32 (s.events.concealed + if s.entryFound k then 0 else 1) } := by
  simp [State.runPickups, countUp]

theorem State.runPickups_get (i : Fin 48) : (s.runPickups k).pickups.get i = { s.pickups.get i with
    peak := max (s.pickups.get i).peak (s.inputOf k i).toInt.natAbs
    held := s.inputOf k i } := by
  simp [State.runPickups, Pickup.record, magnitude]

/-- R52, R53: each delay line is written at the position of the computation's number. -/
theorem State.runPickups_delay (i : Fin 48) : (s.runPickups k).delay.get i =
    (s.delay.get i).write (k.toNat % 32768) ((s.pickups.get i).gated (s.inputOf k i)) := by
  simp [State.runPickups, delayPosition]

/-- R43: neither the output stage, the check, the cores nor the peaks count a concealment or latch LATE_RETURN. -/
theorem State.runSamples_concealed :
    (s.runSamples k).events.concealed = (s.runPickups k).events.concealed ∧
    (s.runSamples k).events.latched .lateReturn = (s.runPickups k).events.latched .lateReturn := by
  have cores : ∀ (w : Option Nat) (inj : Fin 4 → Fin 8 → Int) (t : State),
      (t.runCores w inj).events.concealed = t.events.concealed ∧
      (t.runCores w inj).events.latched .lateReturn = t.events.latched .lateReturn := by
    intro w inj t
    unfold State.runCores
    simp only [State.latchIf_events, Events.latched_eq, BitVec.getLsbD_or, Event.wordIf_bit]
    simp
  have clips : ∀ (n : Nat) (t : State), (t.countFeedClips n).events.concealed = t.events.concealed ∧
      (t.countFeedClips n).events.latched .lateReturn = t.events.latched .lateReturn := by
    intro n t
    unfold State.countFeedClips
    simp only [State.latchIf_events, Events.latched_eq, BitVec.getLsbD_or, Event.wordIf_bit]
    simp
  have check : ∀ t : State, t.advanceCheck.events = t.events := fun t => by simp
  unfold State.runSamples
  rw [State.recordPeaks_events, (cores ..).1, (cores ..).2, check, (clips ..).1, (clips ..).2]
  exact ⟨rfl, rfl⟩

theorem State.tickGuard_concealed (m : Fin 32 → Bool) : (s.tickGuard m).events.concealed = s.events.concealed := by
  simp [State.tickGuard]

/-- R43: the whole computation conceals as its pickups' part does. -/
theorem State.compute_concealed :
    (s.compute k).events.concealed = min top32 (s.events.concealed + if s.entryFound k then 0 else 1) ∧
    (s.compute k).events.latched .lateReturn = (s.events.latched .lateReturn || !s.entryFound k) := by
  have found : (s.beginComputation k).entryFound k = s.entryFound k := by simp [State.entryFound]
  have begun : (s.beginComputation k).events.concealed = s.events.concealed ∧
      (s.beginComputation k).events.latched .lateReturn = s.events.latched .lateReturn := by
    obtain ⟨counters, latches⟩ := s.beginComputation_events k
    refine ⟨by rw [counters], ?_⟩
    rw [latches .lateReturn (by simp)]
    simp
  have samples : ((s.beginComputation k).runSamples k).events.concealed =
        min top32 (s.events.concealed + if s.entryFound k then 0 else 1) ∧
      ((s.beginComputation k).runSamples k).events.latched .lateReturn =
        (s.events.latched .lateReturn || !s.entryFound k) := by
    obtain ⟨count, latch⟩ := (s.beginComputation k).runSamples_concealed k
    rw [count, latch, State.runPickups_events, found, begun.1, ← begun.2]
    refine ⟨rfl, ?_⟩
    simp only [Events.latched_eq, BitVec.getLsbD_or, Event.wordIf_bit]
    simp
  by_cases ht : k.toNat % 48 = 0
  · rw [s.compute_tick k ht, State.tickGuard_concealed, State.tickGuard_latched_other (by simp)]
    exact samples
  · rw [s.compute_between k ht]
    exact samples

end

/-! ## The gated sample (R52) -/

theorem Pickup.gated_toInt (p : Pickup) (x : Sample) : (p.gated x).toInt =
    max (-8388608) (min 8388607 ((x.toInt * (gain p.level : Int) + 4194304) / 8388608)) := toSample_toInt _

/-- R21, R52: an open gate writes the input itself. -/
theorem Pickup.gated_open {p : Pickup} (h : p.level = 0) (x : Sample) : p.gated x = x := by
  have lo := BitVec.le_toInt x
  have hi := BitVec.toInt_lt (x := x)
  refine BitVec.eq_of_toInt_eq ?_
  rw [Pickup.gated_toInt, h, gain_zero]
  omega

/-- R21, R52: a gate at level 1024 writes 0. -/
theorem Pickup.gated_mute {p : Pickup} (h : p.level = 1024) (x : Sample) : p.gated x = 0 := by
  refine BitVec.eq_of_toInt_eq ?_
  rw [Pickup.gated_toInt, h, gain_mute (Nat.le_refl _), Int.natCast_zero, Int.mul_zero]
  rfl

/-- Settles O31. -/
theorem delayLinesKeepHistory : Obligations.DelayLinesKeepHistory := by
  refine ⟨fun s k => ?_, Pickup.gated_toInt, fun s k i canonical => ?_⟩
  · intro e
    have found : e.valid = true → e.tag = k → s.entryFound k = true := fun hv ht => (s.entryFound_iff k).2 ⟨hv, ht⟩
    have missing : e.valid = false ∨ e.tag ≠ k → s.entryFound k = false := (s.entryFound_eq_false_iff k).2
    obtain ⟨count, latch⟩ := s.compute_concealed k
    refine ⟨fun i => ⟨State.inputOf_no_slot, fun hs hv ht => State.inputOf_found hs (found hv ht),
      fun hs hm => State.inputOf_concealed hs (missing hm), s.runPickups_get k i⟩, fun lawful hv ht => ?_, fun hm => ?_,
      ?_, ?_⟩
    · obtain ⟨-, -, -, -, -, concealed, -⟩ := lawful
      rw [State.runPickups_events, found hv ht]
      simp [Nat.min_eq_right concealed]
    · rw [State.runPickups_events, missing hm]
      rfl
    · rw [count]
      exact congrArg (fun n => min top32 (s.events.concealed + n)) (if_congr (s.entryFound_iff k) rfl rfl)
    · rw [latch, Bool.or_eq_true, Bool.not_eq_true', s.entryFound_eq_false_iff]
  · rw [State.runPickups_delay]
    exact ⟨SampleMem.write_wf canonical _ _, SampleMem.read_write_same canonical _ _,
      fun p hp => SampleMem.read_write_other canonical _ hp, by simp, fun h => Pickup.gated_open h _,
      fun h => Pickup.gated_mute h _⟩

end Sys2Proof.Machine
end

section
/-!
PROOFS. Settles O60: HOLD, RESUME and QUIET on the Hold Controller, what QUIET clears, and the sample of HOLD_N (R54,
R74, R94, R111, R145 to R151).
-/

namespace Sys2Proof.Machine

/-- R111: the reply, if any, of the running check that is aborted. -/
def State.abortReplies (s : State) : List Reply :=
  match s.check with
  | none => []
  | some r => r.replyTo.toList.map fun k => k.reply .aborted [octet r.scene.val]

/-- R111: what the abort of a check leaves beside the blocks that `State.abortCheck_frame` names. -/
theorem State.abortCheck_leaves (s : State) : s.abortCheck.check = none ∧
    s.abortCheck.lane = { s.lane with ready := s.lane.ready ++ s.abortReplies } ∧
    s.abortCheck.scenes = (match s.check with
      | none => s.scenes
      | some r => s.scenes.modify r.scene fun sc => { sc with state := .editing }) := by
  unfold State.abortCheck State.abortReplies
  cases h : s.check with
  | none => exact ⟨h, by simp, rfl⟩
  | some r =>
    obtain ⟨scene, next, replyTo⟩ := r
    cases replyTo <;> simp [State.pushReply?]

/-- R151: the Hold Controller, the levels and the events that QUIET leaves. -/
theorem State.enterQuiet_holds (s : State) :
    s.enterQuiet.hold = { s.hold with
      message := false, guard := false, start := true, state := .held, condition := .quiet } ∧
    s.enterQuiet.level = { s.level with hold := 1024 } ∧
    s.enterQuiet.events = { s.events with latch := s.events.latch |||
      if s.hold.state = .running ∨ s.hold.state = .resuming then Event.word .holdEntered else 0 } := by
  refine ⟨?_, ?_, ?_⟩
  · simp [State.enterQuiet, holdStateOf, Hold.any]
  · simp [State.enterQuiet, State.holdAtOnce]
  · cases hs : s.hold.state <;>
      simp [State.enterQuiet, State.holdAtOnce, State.formHold, holdStateOf, Hold.any, HoldState.holds, hs]

/-- R54, R74, R94, R151: QUIET clears the signal memories. -/
theorem State.enterQuiet_memories (s : State) : s.MemoriesCleared s.enterQuiet :=
  State.memoriesCleared_of (by simp [State.enterQuiet]) (by simp [State.enterQuiet]) (by simp [State.enterQuiet])
    (by simp [State.enterQuiet]) (by simp [State.enterQuiet])

/-- R111, R151: QUIET ends a check as its abort does. -/
theorem State.enterQuiet_check (s : State) : s.enterQuiet.check = s.abortCheck.check ∧
    s.enterQuiet.lane = s.abortCheck.lane ∧ s.enterQuiet.scenes = s.abortCheck.scenes := by
  simp [State.enterQuiet]

/-- R146: the level that a computation samples. -/
theorem State.holdNLow_eq (s : State) :
    s.holdNLow = (s.pins.holdPulled || (!s.pins.rstLow && (s.hold.message || s.hold.guard))) := Bool.or_comm ..

/-- R141: the Howl Guard never takes GUARD away. -/
theorem State.compute_guard_stays {s : State} (k : FrameNo) (h : s.hold.guard = true) :
    (s.compute k).hold.guard = true := by
  by_cases ht : k.toNat % 48 = 0
  · exact (s.compute_tick_guards k ht _ rfl _ fun _ => rfl).2.1.2 (.inl h)
  · rw [(s.compute_between_units k ht).2.2.2.1, h]

/-- Settles O60, command by command. -/
theorem holdResumeAndQuiet : Obligations.HoldResumeAndQuiet := by
  refine ⟨fun s e rest h hq => ?_, fun s e rest h hq => ?_, fun s e rest h hq => ?_, fun s k => ?_⟩
  · refine ⟨{ s.popQueue rest with hold := s.hold.addMessage }, congrArg _ (h.posted hq _ _), ?_, rfl⟩
    show (!s.pins.rstLow && (true || s.hold.guard)) = true
    rw [h.1]
    rfl
  · refine ⟨{ s.popQueue rest with hold := s.hold.resume }, congrArg _ (h.posted hq _ _), Bool.and_false _, ?_⟩
    have link : s.hold.resume.link = (s.hold.link && (s.hold.condition != .running)) := by
      unfold Hold.resume
      cases s.hold.condition <;> simp
    rw [← link]
    rfl
  · let p := s.popQueue rest
    obtain ⟨hold, level, events⟩ := p.enterQuiet_holds
    obtain ⟨check, lane, scenes⟩ := p.enterQuiet_check
    obtain ⟨idle, replies, edited⟩ := p.abortCheck_leaves
    obtain ⟨pins, chain, cue, guards, pattern, -⟩ := p.enterQuiet_frame
    refine ⟨p.enterQuiet, congrArg _ (h.posted hq _ _), ?_, hold, level, p.enterQuiet_memories, check.trans idle,
      fun hc => ?_, fun r hr => ?_, events, chain, cue, guards, pattern, pins⟩
    · unfold State.drivesHoldN
      rw [hold]
      exact Bool.and_false _
    · have silent : p.abortReplies = [] := by simp [State.abortReplies, p, hc]
      have running : p.check = none := hc
      rw [silent, List.append_nil] at replies
      simp only [running] at edited
      exact ⟨scenes.trans edited, lane.trans replies⟩
    · have running : p.check = some r := hr
      simp only [running] at edited
      rw [scenes, edited]
      refine ⟨Bank.get_modify_self .., fun j hj => Bank.get_modify_of_ne _ hj _, lane.trans (replies.trans ?_)⟩
      simp only [State.abortReplies, running]
      rfl
  · refine ⟨?_, ?_, State.compute_guard_stays k⟩
    · rw [State.sampleHold, State.holdNLow_eq]
    · rw [← State.holdNLow_eq]
      exact s.compute_hold k

end Sys2Proof.Machine
end

section
/-!
PROOFS. Settles O50: the query rows (R39, R75, R106, R131, R142, R177, R179 to R183, R188). A query is answered from the
state its taking left, whose data are those of the state before: the taking moves the command queue alone.
-/

namespace Sys2Proof.Machine

section
variable {s : State} {e : Entry} {rest : List Entry} {kind : Byte} {n : Nat} (h : s.Takes e rest kind n)
  (unicast : e.broadcast = false)
include h unicast

/-- R162: a unicast query of the right length, outside QUIET, is settled by its own tests. -/
theorem State.Takes.query (hq : s.hold.condition ≠ .quiet) (inQuiet : Bool) (judge : List Byte → State → Verdict) :
    s.laneCommand kind true (judged inQuiet n judge) .queued =
      (s.popQueue rest).settle e (judge e.params (s.popQueue rest)) := by
  have ⟨_, _, _, length, _⟩ := h
  rw [h.laneCommand, State.carryOut_unicast true _ unicast, judged_ready (s := s.popQueue rest) hq length]

/-- R175: the same in every condition for a query that QUIET admits. -/
theorem State.Takes.query_admitted (judge : List Byte → State → Verdict) :
    s.laneCommand kind true (judged true n judge) .queued =
      (s.popQueue rest).settle e (judge e.params (s.popQueue rest)) := by
  have ⟨_, _, _, length, _⟩ := h
  rw [h.laneCommand, State.carryOut_unicast true _ unicast, judged_admitted length]

end

/-- R177: a unicast query answered is its DONE reply. -/
theorem State.settle_answered_unicast {e : Entry} (h : e.broadcast = false) (s : State) (data : List Byte) :
    s.settle e (answered s data) = s.pushReply e.ticket .done data := by
  rw [State.settle_answered, h]
  rfl

/-- R176, R177: a query of one thing answers for an index in range, and gives BAD_INDEX for another. -/
theorem State.settle_indexed {e : Entry} (h : e.broadcast = false) (s : State) {m x : Nat} (data : Fin m → List Byte) :
    s.settle e (if hx : x < m then answered s (data ⟨x, hx⟩) else .refused .badIndex) =
      if hx : x < m then s.pushReply e.ticket .done (data ⟨x, hx⟩) else s.refusal e .badIndex := by
  split
  · exact State.settle_answered_unicast h s _
  · rfl

/-! ## The judgements of the queries of one thing -/

section
variable (p : List Byte) (s : State)

theorem judgePickupRead_eq : judgePickupRead p s = if h : at8 p 0 < 48 then
    answered s (pickupData ⟨at8 p 0, h⟩ (s.pickups.get ⟨at8 p 0, h⟩)) else .refused .badIndex := by
  by_cases h : at8 p 0 < 48 <;> simp [judgePickupRead, index?, h]

theorem judgeFeedRead_eq : judgeFeedRead p s = if h : at8 p 0 < 32 then
    answered s (s.feedData ⟨at8 p 0, h⟩) else .refused .badIndex := by
  by_cases h : at8 p 0 < 32 <;> simp [judgeFeedRead, index?, h]

theorem judgeCoreRead_eq : judgeCoreRead p s = if h : at8 p 0 < 4 then
    answered s (coreData ⟨at8 p 0, h⟩ (s.cores.get ⟨at8 p 0, h⟩)) else .refused .badIndex := by
  by_cases h : at8 p 0 < 4 <;> simp [judgeCoreRead, index?, h]

theorem judgeTapRead_eq : judgeTapRead p s = if h : at8 p 0 < 16 then
    answered s (tapReadData ⟨at8 p 0, h⟩ (at16 p 1)
      (tapsRead (s.scenes.get ⟨at8 p 0, h⟩).taps (at16 p 1) (at8 p 3))) else .refused .badIndex := by
  by_cases h : at8 p 0 < 16 <;> simp [judgeTapRead, index?, h]

theorem judgeSceneRead_eq : judgeSceneRead p s = if h : at8 p 0 < 16 then
    answered s (s.sceneData ⟨at8 p 0, h⟩) else .refused .badIndex := by
  by_cases h : at8 p 0 < 16 <;> simp [judgeSceneRead, index?, h]

theorem judgeGuardRead_eq : judgeGuardRead p s = if h : at8 p 0 < 32 then
    answered s (guardData ⟨at8 p 0, h⟩ (s.guards.get ⟨at8 p 0, h⟩)) else .refused .badIndex := by
  by_cases h : at8 p 0 < 32 <;> simp [judgeGuardRead, index?, h]

/-- R182: PATTERN_READ is judged DONE; its clear flag clears the counts in what it leaves. -/
theorem judgePatternRead_eq : judgePatternRead p s = .taken
    (if at8 p 0 = 0 then s else { s with events := { s.events with patWords := 0, patBits := 0 } })
    (some (.done, s.patternData)) := by
  by_cases h : at8 p 0 = 0 <;> simp [judgePatternRead, onOff, h]

end

/-- Settles O50, row by row. -/
theorem queriesAnswerWithTheirData : Obligations.QueriesAnswerWithTheirData := by
  intro s e rest kind n h unicast done none' i
  have settled : ∀ judge, s.hold.condition ≠ .quiet → s.laneCommand kind true (judged false n judge) .queued =
      (s.popQueue rest).settle e (judge e.params (s.popQueue rest)) := fun judge hq => h.query unicast hq false judge
  have answer : ∀ data, (s.popQueue rest).settle e (answered (s.popQueue rest) data) = done data :=
    State.settle_answered_unicast unicast _
  have indexed : ∀ judge {m : Nat} (data : Fin m → List Byte), s.hold.condition ≠ .quiet →
      judge e.params (s.popQueue rest) =
        (if hx : i < m then answered (s.popQueue rest) (data ⟨i, hx⟩) else .refused .badIndex) →
      s.laneCommand kind true (judged false n judge) .queued = if hx : i < m then done (data ⟨i, hx⟩) else none' :=
    fun judge m data hq hj => (settled judge hq).trans (hj ▸ State.settle_indexed unicast _ data)
  refine ⟨fun hk hn => ?_, fun hk hn => ?_, fun hk hn => ?_, fun hq => ⟨fun hk hn => ?_, fun hk hn => ?_,
    fun hk hn => ?_, fun hk hn => ?_, fun hk hn => ?_, fun hk hn => ?_, fun hk hn => ?_, fun hk hn => ?_,
    fun hk hn => ?_⟩⟩ <;> subst hk <;> subst hn
  · exact congrArg _ ((h.query_admitted unicast _).trans (answer (identifyData s.chain)))
  · exact congrArg _ ((h.query_admitted unicast _).trans (answer s.eventsData))
  · exact congrArg _ ((h.query_admitted unicast _).trans (answer s.chainData))
  · refine congrArg _ ((settled _ hq).trans ?_)
    rw [judgePatternRead_eq]
    simp only [State.settle, unicast]
    by_cases hc : at8 e.params 0 = 0
    · rw [if_pos hc, if_pos hc]
      rfl
    · rw [if_neg hc, if_neg hc]
      rfl
  · exact congrArg _ (indexed _ (fun x => pickupData x (s.pickups.get x)) hq (judgePickupRead_eq ..))
  · exact congrArg _ (indexed _ (fun x => s.feedData x) hq (judgeFeedRead_eq ..))
  · exact congrArg _ ((settled _ hq).trans (answer (groupData (at32 e.params 0) s.level.groups)))
  · exact congrArg _ (indexed _ (fun x => coreData x (s.cores.get x)) hq (judgeCoreRead_eq ..))
  · exact congrArg _ (indexed _ (fun x => tapReadData x (at16 e.params 1)
      (tapsRead (s.scenes.get x).taps (at16 e.params 1) (at8 e.params 3))) hq (judgeTapRead_eq ..))
  · exact congrArg _ (indexed _ (fun x => s.sceneData x) hq (judgeSceneRead_eq ..))
  · exact congrArg _ ((settled _ hq).trans (answer s.cueData))
  · exact congrArg _ (indexed _ (fun x => guardData x (s.guards.get x)) hq (judgeGuardRead_eq ..))

end Sys2Proof.Machine
end

section
/-!
PROOFS. Facts about the Cue Unit over the state: the scene in a state, the due test, the fire and the end of a crossfade
(R99, R100, R121, R122, R125, R126).
-/

namespace Sys2Proof.Machine

/-! ## Scenes by their state -/

/-- R100, R122: at fire the target becomes ACTIVE and the ACTIVE scene OUTGOING. -/
theorem fireScenes_get (t : Fin 16) (scenes : Bank 16 Scene) (i : Fin 16) : (fireScenes t scenes).get i =
    { scenes.get i with state := if i = t then .active
      else if (scenes.get i).state = .active then .outgoing else (scenes.get i).state } := by
  rw [fireScenes, Bank.get_mapIdx]
  split
  · rfl
  · split <;> rfl

/-- R100, R125: at the end of a crossfade the OUTGOING scene becomes READY, or CUED when it is the armed target. -/
theorem endFadeScenes_get (armed : Option (Fin 16)) (scenes : Bank 16 Scene) (i : Fin 16) :
    (endFadeScenes armed scenes).get i = { scenes.get i with state :=
      if (scenes.get i).state = .outgoing then (if armed = some i then .cued else .ready)
      else (scenes.get i).state } := by
  rw [endFadeScenes, Bank.get_mapIdx]
  split <;> rfl

/-- R99: no scene is in a state. -/
theorem State.sceneIn_isNone_iff (st : SceneState) (s : State) :
    (s.sceneIn st).isNone = true ↔ ∀ i, (s.scenes.get i).state ≠ st := by
  simp [State.sceneIn]

/-- R99: the one scene in a state is the scene found there. -/
theorem State.sceneIn_eq_some {s : State} {st : SceneState} {i : Fin 16} (hi : (s.scenes.get i).state = st)
    (unique : ∀ j, (s.scenes.get j).state = st → j = i) : s.sceneIn st = some i := by
  cases found : s.sceneIn st with
  | none => exact absurd hi ((s.sceneIn_isNone_iff st).1 (by rw [found]; rfl) i)
  | some j =>
    have state : (s.scenes.get j).state = st := by simpa using List.find?_some found
    rw [unique j state]

/-! ## The due test (R121, R126) -/

/-- R121: a fire is due for an ARMED cue that is immediate, or whose frame number is reached or has passed. -/
theorem State.fires_iff (k : FrameNo) (s : State) : s.fires k = true ↔ s.cue.state = .armed ∧
    (s.cue.immediate = true ∨ s.cue.frameX - k = 0 ∨ 2147483648 ≤ (s.cue.frameX - k).toNat) := by
  have reached : s.cue.frameX = k ↔ s.cue.frameX - k = 0 := by
    constructor <;> intro h <;> bv_omega
  rw [← reached]
  simp [State.fires, CueUnit.due, or_assoc]

/-- R126: the Cue Unit after a due test that finds no cue due: an ARMED cue's first test has been made. -/
def CueUnit.waited (c : CueUnit) : CueUnit := { c with firstTest := c.firstTest && c.state != .armed }

theorem CueUnit.waited_of_armed {c : CueUnit} (h : c.state = .armed) : c.waited = { c with firstTest := false } := by
  simp [CueUnit.waited, h]

theorem CueUnit.waited_of_ne {c : CueUnit} (h : c.state ≠ .armed) : c.waited = c := by
  have other : (c.state != .armed) = true := by simpa using h
  rw [CueUnit.waited, other, Bool.and_true]

theorem State.testCue_of_fires {k : FrameNo} {s : State} (h : s.fires k = true) : s.testCue k = s.fire k := by
  rw [State.testCue, if_pos h]

theorem State.testCue_of_waits {k : FrameNo} {s : State} (h : s.fires k = false) :
    s.testCue k = { s with cue := s.cue.waited } := by
  rw [State.testCue, if_neg (by simp [h])]
  split
  · rw [CueUnit.waited_of_armed ‹_›]
  · rw [CueUnit.waited_of_ne ‹_›]

/-! ## The fire (R122) -/

theorem State.fire_of_target {s : State} {t : Fin 16} (h : s.cue.target = some t) (k : FrameNo) :
    s.fire k = s.fireTarget t k := by
  simp [State.fire, h]

/-- R122: all that a fire moves. -/
theorem State.fireTarget_eq (t : Fin 16) (k : FrameNo) (s : State) : s.fireTarget t k = { s with
    scenes := fireScenes t s.scenes
    cue := s.cue.fire (s.scenes.get t).header.fadeCode (s.sceneIn .active).isNone
    cores := s.cores.map RevCore.fire
    taps := { s.taps with
      gainActive := some (gainSet s.level.groups (s.scenes.get t) 0)
      gainOutgoing := if (s.sceneIn .active).isNone then none else s.taps.gainActive }
    events := { s.events with
      latch := s.events.latch ||| Event.word .cueFired ||| (s.cue.fireEvent k).elim 0 Event.word } } := by
  unfold State.fireTarget
  cases s.cue.fireEvent k with
  | none => simp [State.latch, Events.set]
  | some e => rfl

end Sys2Proof.Machine
end

section
/-!
PROOFS. Settles O12: every step keeps the scene states tied to the Cue Unit and the Check Unit, and the records as
stored (R57, R96 to R100, R115, R123). A scene that is not locked may change its state freely as far as the Cue Unit
goes; the locked states move at a cue, a fire, the end of a crossfade and a cancel alone.
-/

namespace Sys2Proof.Machine

/-! ## Records as stored (R57, R97, R98, R102) -/

theorem headerOf_lawful (p : List Byte) : (headerOf p).Lawful := by
  refine ⟨Nat.min_le_left .., ?_, fun c => ?_, headerOf_damping_le p⟩
  · simp only [headerOf, clampWander, clamp]
    split <;> omega
  · simp only [headerOf, Bank.get_ofFn, clampDecay, clamp]
    split <;> omega

theorem tapRecords_lawful (p : List Byte) (count : Nat) : ∀ t ∈ tapRecords p count, t.delay ≤ 32767 ∧ t.depth ≤ 7 := by
  intro t ht
  obtain ⟨j, -, rfl⟩ := List.mem_map.1 ht
  exact ⟨Nat.min_le_left .., Nat.min_le_left ..⟩

/-- R98, R102: records beyond index 1,023 are dropped. -/
theorem writeTaps_length_le {taps : List Tap} (h : taps.length ≤ 1024) (first : Nat) (records : List Tap) :
    (writeTaps taps first records).length ≤ 1024 := by
  simp only [writeTaps, tapsWritten, List.length_append, List.length_take, List.length_drop]
  omega

/-- R102: a written tap list holds old taps and records alone. -/
theorem mem_writeTaps {taps : List Tap} {first : Nat} {records : List Tap} {t : Tap}
    (h : t ∈ writeTaps taps first records) : t ∈ taps ∨ t ∈ records := by
  simp only [writeTaps, List.mem_append] at h
  rcases h with (h | h) | h
  · exact .inl (List.mem_of_mem_take h)
  · exact .inr (List.mem_of_mem_take h)
  · exact .inl (List.mem_of_mem_drop h)

theorem Scene.Lawful.putTaps {sc : Scene} (h : sc.Lawful) {records : List Tap}
    (hr : ∀ t ∈ records, t.delay ≤ 32767 ∧ t.depth ≤ 7) (first : Nat) (st : SceneState) :
    ({ sc with taps := writeTaps sc.taps first records, state := st } : Scene).Lawful := by
  obtain ⟨header, count, stored⟩ := h
  exact ⟨header, writeTaps_length_le count first records, fun t ht => (mem_writeTaps ht).elim (stored t) (hr t)⟩

/-! ## Scenes that are not locked -/

/-- R99: what leaves the locked states, the Cue Unit's marks and the tie of the check keeps the law. -/
theorem State.SceneLaw.of_locked {s t : State} (h : s.SceneLaw) (lawful : ∀ i, (t.scenes.get i).Lawful)
    (locked : ∀ i x, x.locked = true → ((t.scenes.get i).state = x ↔ (s.scenes.get i).state = x))
    (checks : ∀ i, (t.scenes.get i).state = .checking ↔ t.check.map CheckRun.scene = some i)
    (cue : t.cue.state = s.cue.state ∧ t.cue.target = s.cue.target ∧ t.cue.silence = s.cue.silence) :
    t.SceneLaw := by
  obtain ⟨-, active, outgoing, fades, armed, cued, aim, -⟩ := h
  obtain ⟨state, target, silence⟩ := cue
  unfold State.SceneLaw
  simp only [locked _ .active rfl, locked _ .outgoing rfl, locked _ .cued rfl, state, target, silence]
  exact ⟨lawful, active, outgoing, fades, armed, cued, aim, checks⟩

/-- What leaves the scenes, the scene being checked and the Cue Unit's marks keeps the law. -/
theorem State.SceneLaw.of_scenes {s t : State} (h : s.SceneLaw) (scenes : t.scenes = s.scenes)
    (check : t.check.map CheckRun.scene = s.check.map CheckRun.scene)
    (cue : t.cue.state = s.cue.state ∧ t.cue.target = s.cue.target ∧ t.cue.silence = s.cue.silence) :
    t.SceneLaw := by
  have ⟨records, _, _, _, _, _, _, ties⟩ := h
  exact h.of_locked (by rwa [scenes]) (fun i x _ => by rw [scenes]) (by rwa [scenes, check]) cue

/-- R99: one scene that is not locked takes a state that is not locked. -/
theorem State.SceneLaw.setScene {s t : State} (h : s.SceneLaw) {i : Fin 16} (own : (t.scenes.get i).Lawful)
    (was : (s.scenes.get i).state.locked = false) (is : (t.scenes.get i).state.locked = false)
    (others : ∀ j, j ≠ i → t.scenes.get j = s.scenes.get j)
    (checked : (t.scenes.get i).state = .checking ↔ t.check.map CheckRun.scene = some i)
    (unchecked : ∀ j, j ≠ i → (t.check.map CheckRun.scene = some j ↔ s.check.map CheckRun.scene = some j))
    (cue : t.cue = s.cue) : t.SceneLaw := by
  have ⟨records, _, _, _, _, _, _, checks⟩ := h
  refine h.of_locked (fun j => ?_) (fun j x hx => ?_) (fun j => ?_) (by rw [cue]; exact ⟨rfl, rfl, rfl⟩)
  all_goals by_cases hj : j = i
  · exact hj ▸ own
  · exact others j hj ▸ records j
  · subst hj
    constructor <;> rintro rfl
    · exact absurd hx (Bool.eq_false_iff.1 is)
    · exact absurd hx (Bool.eq_false_iff.1 was)
  · rw [others j hj]
  · exact hj ▸ checked
  · rw [others j hj, unchecked j hj]
    exact checks j

/-! ## The Check Unit (R107, R110, R111) -/

/-- R107: the scene being checked is CHECKING. -/
theorem State.SceneLaw.checking {s : State} (h : s.SceneLaw) {c : CheckRun} (hc : s.check = some c) :
    (s.scenes.get c.scene).state = .checking := by
  obtain ⟨-, -, -, -, -, -, -, checks⟩ := h
  exact (checks c.scene).2 (by rw [hc]; rfl)

/-- R110, R111: the running check ends, and its scene takes a state that is neither locked nor CHECKING. -/
theorem State.SceneLaw.endCheck {s t : State} (h : s.SceneLaw) {c : CheckRun} (hc : s.check = some c)
    {f : Scene → Scene} (lawful : ∀ sc, sc.Lawful → (f sc).Lawful) (free : ∀ sc, (f sc).state.locked = false)
    (done : ∀ sc, (f sc).state ≠ .checking) (scenes : t.scenes = s.scenes.modify c.scene f) (check : t.check = none)
    (cue : t.cue = s.cue) : t.SceneLaw := by
  have was := h.checking hc
  have own : t.scenes.get c.scene = f (s.scenes.get c.scene) := by rw [scenes, Bank.get_modify_self]
  refine h.setScene (i := c.scene) ?_ (by rw [was]; rfl) ?_ (fun j hj => ?_) ?_ (fun j hj => ?_) cue
  · exact own ▸ lawful _ (h.1 _)
  · exact own ▸ free _
  · rw [scenes, Bank.get_modify_of_ne _ hj]
  · rw [check]
    exact ⟨fun k => absurd k (own ▸ done _), nofun⟩
  · rw [check, hc]
    exact ⟨nofun, fun k => absurd (Option.some.inj k).symm hj⟩

theorem State.SceneLaw.endCheckPass {s : State} (h : s.SceneLaw) {c : CheckRun} (hc : s.check = some c) :
    (s.endCheckPass c).SceneLaw :=
  h.endCheck hc (f := fun sc => { sc with state := .ready, result := .passed }) (fun _ k => k) (fun _ => rfl) nofun
    (by simp [State.endCheckPass]) (by simp [State.endCheckPass]) (by simp)

theorem State.SceneLaw.endCheckFail {s : State} (h : s.SceneLaw) {c : CheckRun} (hc : s.check = some c) (i : Nat)
    (r : CheckReason) : (s.endCheckFail c i r).SceneLaw :=
  h.endCheck hc (f := fun sc => { sc with state := .editing, result := .failed i r }) (fun _ k => k) (fun _ => rfl)
    nofun (by simp [State.endCheckFail]) (by simp [State.endCheckFail]) (by simp)

theorem State.SceneLaw.abortCheck {s : State} (h : s.SceneLaw) : s.abortCheck.SceneLaw := by
  cases hc : s.check with
  | none =>
    have idle : s.abortCheck = s := by simp [State.abortCheck, hc]
    rwa [idle]
  | some c =>
    exact h.endCheck hc (f := fun sc => { sc with state := .editing }) (fun _ k => k) (fun _ => rfl) nofun
      (by simp [State.abortCheck, hc]) (by simp [State.abortCheck, hc]) (by simp)

/-- R108: a running check goes on, passes or fails. -/
theorem State.SceneLaw.advanceCheck {s : State} (h : s.SceneLaw) : s.advanceCheck.SceneLaw := by
  unfold State.advanceCheck
  split
  · exact h
  · rename_i c hc
    split
    · exact h.endCheckFail hc _ _
    · exact h.endCheckPass hc
    · exact h.of_scenes rfl (by rw [hc]; rfl) ⟨rfl, rfl, rfl⟩

/-- R107: a check starts on a scene that is not locked, when none runs. -/
theorem State.SceneLaw.startCheck {s : State} (h : s.SceneLaw) {i : Fin 16} (r : Option Ticket)
    (free : (s.scenes.get i).state.locked = false) (idle : s.check = none) : State.SceneLaw { s with
      check := some ⟨i, 0, r⟩, scenes := s.scenes.modify i fun sc => { sc with state := .checking } } := by
  have own : (s.scenes.modify i fun sc => { sc with state := .checking }).get i =
      { s.scenes.get i with state := .checking } := Bank.get_modify_self ..
  refine h.setScene (i := i) ?_ free ?_ (fun j hj => Bank.get_modify_of_ne _ hj _) ?_ (fun j hj => ?_) rfl
  · exact own ▸ h.1 i
  · exact own ▸ rfl
  · exact ⟨fun _ => rfl, fun _ => congrArg Scene.state own⟩
  · rw [idle]
    exact ⟨fun k => absurd (Option.some.inj k).symm hj, nofun⟩

/-! ## Edits of a scene that is not locked (R102 to R105, R107) -/

/-- R111: after the abort of a check of scene `i` no check of scene `i` runs, and a scene that was not locked is not. -/
theorem State.abortCheckOf_free {s : State} {i : Fin 16} (free : (s.scenes.get i).state.locked = false) :
    (s.abortCheckOf i).check.map CheckRun.scene ≠ some i ∧
    ((s.abortCheckOf i).scenes.get i).state.locked = false := by
  unfold State.abortCheckOf
  split
  · rename_i hc
    exact ⟨by rw [hc]; nofun, free⟩
  · rename_i c hc
    split
    · rename_i hi
      subst hi
      simp [State.abortCheck, hc, SceneState.locked]
    · rename_i hi
      rw [hc]
      exact ⟨fun k => hi (Option.some.inj k), free⟩

theorem State.SceneLaw.abortCheckOf {s : State} (h : s.SceneLaw) (i : Fin 16) : (s.abortCheckOf i).SceneLaw := by
  unfold State.abortCheckOf
  split
  · exact h
  · split
    · exact h.abortCheck
    · exact h

theorem State.SceneLaw.abortCheckUsing {s : State} (h : s.SceneLaw) (c : Fin 4) : (s.abortCheckUsing c).SceneLaw := by
  unfold State.abortCheckUsing
  split
  · exact h
  · split
    · exact h.abortCheck
    · exact h

/-- A scene that is neither locked nor being checked is replaced by one that is neither locked nor CHECKING. -/
theorem State.SceneLaw.replaceScene {s : State} (h : s.SceneLaw) {i : Fin 16} {f : Scene → Scene}
    (lawful : ∀ sc, sc.Lawful → (f sc).Lawful) (is : ∀ sc, (f sc).state.locked = false)
    (done : ∀ sc, (f sc).state ≠ .checking) (was : (s.scenes.get i).state.locked = false)
    (unchecked : s.check.map CheckRun.scene ≠ some i) :
    State.SceneLaw { s with scenes := s.scenes.modify i f } := by
  have own : (s.scenes.modify i f).get i = f (s.scenes.get i) := Bank.get_modify_self ..
  refine h.setScene (i := i) ?_ was ?_ (fun j hj => Bank.get_modify_of_ne _ hj _) ?_ (fun _ _ => Iff.rfl) rfl
  · exact own ▸ lawful _ (h.1 i)
  · exact own ▸ is _
  · exact ⟨fun k => absurd k (own ▸ done _), fun k => absurd k unchecked⟩

/-- R105, R111: an edit of a scene that is not locked aborts a check of it first. -/
theorem State.SceneLaw.edit {s : State} (h : s.SceneLaw) {i : Fin 16} {f : Scene → Scene}
    (lawful : ∀ sc, sc.Lawful → (f sc).Lawful) (is : ∀ sc, (f sc).state.locked = false)
    (done : ∀ sc, (f sc).state ≠ .checking) (was : (s.scenes.get i).state.locked = false) :
    State.SceneLaw { s.abortCheckOf i with scenes := (s.abortCheckOf i).scenes.modify i f } := by
  obtain ⟨unchecked, free⟩ := State.abortCheckOf_free was
  exact (h.abortCheckOf i).replaceScene lawful is done free unchecked

/-- R78, R79: a core takes a new shape: READY scenes that use it become EDITING. -/
theorem State.SceneLaw.shapeCore {s : State} (h : s.SceneLaw) (c : Fin 4) (lengths : Bank 8 Nat) :
    (s.shapeCore c lengths).SceneLaw := by
  have aborted := h.abortCheckUsing c
  have ⟨lawful, _, _, _, _, _, _, checks⟩ := aborted
  refine aborted.of_locked (t := s.shapeCore c lengths) (fun i => ?_) (fun i x hx => ?_) (fun i => ?_) ⟨rfl, rfl, rfl⟩
  all_goals
    simp only [State.shapeCore, demoteScenes, Bank.get_map]
    split
  · exact lawful i
  · exact lawful i
  · rename_i ready
    rw [ready.1]
    constructor <;> rintro rfl <;> cases hx
  · rfl
  · rename_i ready
    have := checks i
    rw [ready.1] at this
    simpa using this
  · exact checks i

/-! ## Fire and end of a crossfade (R100, R122, R125) -/

/-- R99, R123: an ARMED cue has a CUED target, the only CUED scene, and no scene is OUTGOING. -/
theorem State.SceneLaw.armed_target {s : State} (h : s.SceneLaw) (armed : s.cue.state = .armed) :
    ∃ t, s.cue.target = some t ∧ (s.scenes.get t).state = .cued ∧
      (∀ i, (s.scenes.get i).state = .cued → i = t) ∧ ∀ i, (s.scenes.get i).state ≠ .outgoing := by
  obtain ⟨-, -, -, fades, target, cued, aim, -⟩ := h
  have still : ∀ i, (s.scenes.get i).state ≠ .outgoing := fun i hi => by
    have running := (fades.1 ⟨i, hi⟩).1
    rw [armed] at running
    cases running
  obtain ⟨t, ht⟩ := Option.isSome_iff_exists.1 (target.1 (by rw [armed]; rfl))
  exact ⟨t, ht, (aim t ht).resolve_right (still t), fun i hi => Option.some.inj ((cued i hi).symm.trans ht), still⟩

/-- R100, R122: the target, CUED before, becomes ACTIVE; the ACTIVE scene, if any, becomes OUTGOING. -/
theorem State.SceneLaw.fire {s : State} (h : s.SceneLaw) {k : FrameNo} (due : s.fires k = true) :
    (s.fire k).SceneLaw := by
  have armed := ((s.fires_iff k).1 due).1
  obtain ⟨t, ht, was, only, still⟩ := h.armed_target armed
  obtain ⟨lawful, active, -, -, -, -, -, checks⟩ := h
  have nowActive : ∀ i, ((fireScenes t s.scenes).get i).state = .active ↔ i = t := fun i => by
    rw [fireScenes_get]
    grind
  have nowOutgoing : ∀ i, ((fireScenes t s.scenes).get i).state = .outgoing ↔ (s.scenes.get i).state = .active :=
    fun i => by
      rw [fireScenes_get]
      grind
  have nowCued : ∀ i, ((fireScenes t s.scenes).get i).state ≠ .cued := fun i => by
    rw [fireScenes_get]
    grind
  have nowChecking : ∀ i, ((fireScenes t s.scenes).get i).state = .checking ↔ (s.scenes.get i).state = .checking :=
    fun i => by
      rw [fireScenes_get]
      grind
  rw [State.fire_of_target ht, State.fireTarget_eq]
  refine ⟨fun i => ?_, fun i j hi hj => ?_, fun i j hi hj => ?_, ?_, ⟨nofun, nofun⟩, fun i hi => absurd hi (nowCued i),
    nofun, fun i => (nowChecking i).trans (checks i)⟩
  · dsimp only
    rw [fireScenes_get]
    exact lawful i
  · exact ((nowActive i).1 hi).trans ((nowActive j).1 hj).symm
  · exact active i j ((nowOutgoing i).1 hi) ((nowOutgoing j).1 hj)
  · have sounding : (∃ i, (s.scenes.get i).state = .active) ↔ (s.sceneIn .active).isNone = false := by
      rw [← Bool.not_eq_true, State.sceneIn_isNone_iff]
      push Not
      rfl
    simp only [nowOutgoing, sounding]
    exact ⟨fun silence => ⟨rfl, silence⟩, And.right⟩

/-- R115, R125: the end of a crossfade keeps an armed cue. -/
theorem CueUnit.endFade_marks {c : CueUnit} (running : c.state.fades = true) :
    c.endFade.state.fades = false ∧ c.endFade.state.hasCue = c.state.hasCue := by
  revert running
  simp only [CueUnit.endFade]
  cases c.state <;> simp [CueState.fades, CueState.hasCue]

/-- R100, R125: the OUTGOING scene becomes READY, or CUED when it is the armed target; no crossfade runs after. -/
theorem State.SceneLaw.endFade {s : State} (h : s.SceneLaw) (running : s.cue.state.fades = true) :
    s.endFade.SceneLaw := by
  obtain ⟨lawful, active, -, -, target, cued, aim, checks⟩ := h
  have noOutgoing : ∀ i, ((endFadeScenes s.cue.target s.scenes).get i).state ≠ .outgoing := fun i => by
    rw [endFadeScenes_get]
    grind
  have nowActive : ∀ i, ((endFadeScenes s.cue.target s.scenes).get i).state = .active ↔
      (s.scenes.get i).state = .active := fun i => by
    rw [endFadeScenes_get]
    grind
  have nowCued : ∀ i, ((endFadeScenes s.cue.target s.scenes).get i).state = .cued ↔ s.cue.target = some i := fun i => by
    have := cued i
    have := aim i
    rw [endFadeScenes_get]
    grind
  have nowChecking : ∀ i, ((endFadeScenes s.cue.target s.scenes).get i).state = .checking ↔
      (s.scenes.get i).state = .checking := fun i => by
    rw [endFadeScenes_get]
    grind
  obtain ⟨ended, stillCue⟩ := CueUnit.endFade_marks running
  refine ⟨fun i => ?_, fun i j hi hj => active i j ((nowActive i).1 hi) ((nowActive j).1 hj),
    fun i _ hi => absurd hi (noOutgoing i), ⟨fun ⟨i, hi⟩ => absurd hi (noOutgoing i), fun k => ?_⟩, ?_,
    fun i => (nowCued i).1, fun i hi => .inl ((nowCued i).2 hi), fun i => (nowChecking i).trans (checks i)⟩
  · rw [State.endFade_scenes, endFadeScenes_get]
    exact lawful i
  · rw [State.endFade_cue, ended] at k
    cases k.1
  · rw [State.endFade_cue, stillCue]
    exact target

/-! ## Cues (R100, R117, R118, R120) -/

/-- R100, R118, R120: a released target is READY when it was CUED; an OUTGOING one stays. -/
theorem releaseTarget_get (target : Option (Fin 16)) (scenes : Bank 16 Scene) (i : Fin 16) :
    (releaseTarget target scenes).get i = { scenes.get i with
      state := if target = some i ∧ (scenes.get i).state = .cued then .ready else (scenes.get i).state } := by
  unfold releaseTarget
  cases target with
  | none => rfl
  | some j =>
    by_cases hi : i = j
    · subst hi
      rw [Bank.get_modify_self]
      split <;> simp [*]
    · rw [Bank.get_modify_of_ne _ hi]
      simp [Ne.symm hi]

/-- R100: an armed READY scene is CUED; a CUED or OUTGOING one stays. -/
theorem armScene_get (j : Fin 16) (scenes : Bank 16 Scene) (i : Fin 16) : (armScene j scenes).get i =
    { scenes.get i with
      state := if i = j ∧ (scenes.get i).state = .ready then .cued else (scenes.get i).state } := by
  by_cases hi : i = j
  · subst hi
    rw [armScene, Bank.get_modify_self]
    split <;> simp [*]
  · rw [armScene, Bank.get_modify_of_ne _ hi]
    simp [hi]

/-- R115, R117, R118: arming a cue keeps a crossfade. -/
theorem CueUnit.arm_marks (i : Fin 16) (x : FrameNo) (b : Bool) (c : CueUnit) :
    (c.arm i x b).state.fades = c.state.fades ∧ (c.arm i x b).state.hasCue = true := by
  unfold CueUnit.arm
  cases c.state <;> exact ⟨rfl, rfl⟩

/-- R115, R120: so does a cancel. -/
theorem CueUnit.cancel_marks (c : CueUnit) :
    c.cancel.state.fades = c.state.fades ∧ c.cancel.state.hasCue = false := by
  unfold CueUnit.cancel
  cases c.state <;> exact ⟨rfl, rfl⟩

theorem State.takeCue_cue (i : Fin 16) (x : FrameNo) (b : Bool) (s : State) :
    (s.takeCue i x b).cue = s.cue.arm i x b := by
  unfold State.takeCue
  split
  · split <;> rfl
  · rfl

/-- R100, R117, R118: the scenes once scene `i` is armed: it alone is CUED, unless it is OUTGOING. -/
theorem State.SceneLaw.takeCue_scenes {s : State} (h : s.SceneLaw) {i : Fin 16}
    (hi : (s.scenes.get i).state ∈ [SceneState.ready, .cued, .outgoing]) (x : FrameNo) (b : Bool) (j : Fin 16) :
    (s.takeCue i x b).scenes.get j = { s.scenes.get j with
      state := if j = i then (if (s.scenes.get i).state = .outgoing then .outgoing else .cued)
        else if (s.scenes.get j).state = .cued then .ready else (s.scenes.get j).state } := by
  obtain ⟨-, -, -, -, target, cued, aim, -⟩ := h
  have moved : (s.takeCue i x b).scenes = armScene i
      (if s.cue.state.hasCue = true ∧ s.cue.target ≠ some i then releaseTarget s.cue.target s.scenes
       else s.scenes) := by
    unfold State.takeCue
    by_cases armed : s.cue.state.hasCue = true
    · by_cases same : s.cue.target = some i <;> simp [armed, same, State.armCue]
    · simp [armed, State.armCue]
  have cuedJ := cued j
  have aimJ := aim j
  rw [moved, armScene_get]
  split
  · rw [releaseTarget_get]
    grind
  · grind

theorem State.SceneLaw.takeCue {s : State} (h : s.SceneLaw) {i : Fin 16} (x : FrameNo) (b : Bool)
    (hi : (s.scenes.get i).state ∈ [SceneState.ready, .cued, .outgoing]) : (s.takeCue i x b).SceneLaw := by
  have moved := h.takeCue_scenes hi x b
  obtain ⟨lawful, active, outgoing, fades, -, -, -, checks⟩ := h
  obtain ⟨stillFades, armed⟩ := s.cue.arm_marks i x b
  have nowActive : ∀ j, ((s.takeCue i x b).scenes.get j).state = .active ↔ (s.scenes.get j).state = .active :=
    fun j => by
      rw [moved]
      grind
  have nowOutgoing : ∀ j, ((s.takeCue i x b).scenes.get j).state = .outgoing ↔ (s.scenes.get j).state = .outgoing :=
    fun j => by
      rw [moved]
      grind
  have nowChecking : ∀ j, ((s.takeCue i x b).scenes.get j).state = .checking ↔ (s.scenes.get j).state = .checking :=
    fun j => by
      rw [moved]
      grind
  refine ⟨fun j => moved j ▸ lawful j, fun j k hj hk => active j k ((nowActive j).1 hj) ((nowActive k).1 hk),
    fun j k hj hk => outgoing j k ((nowOutgoing j).1 hj) ((nowOutgoing k).1 hk), ?_, ?_, fun j hj => ?_, fun j hj => ?_,
    fun j => ?_⟩
  · simp only [nowOutgoing, State.takeCue_cue, stillFades]
    exact fades
  · rw [State.takeCue_cue, armed]
    exact ⟨fun _ => rfl, fun _ => rfl⟩
  · rw [moved] at hj
    rw [State.takeCue_cue]
    show some i = some j
    grind
  · rw [State.takeCue_cue] at hj
    have same : i = j := Option.some.inj hj
    rw [moved]
    grind
  · have check : (s.takeCue i x b).check = s.check := by simp
    rw [nowChecking, check]
    exact checks j

/-- R120: the CUED target becomes READY; an OUTGOING one stays. -/
theorem State.SceneLaw.cancelCue {s : State} (h : s.SceneLaw) : s.cancelCue.SceneLaw := by
  unfold State.cancelCue
  split
  · obtain ⟨lawful, active, outgoing, fades, -, cued, -, checks⟩ := h
    obtain ⟨stillFades, disarmed⟩ := s.cue.cancel_marks
    have moved : ∀ i, ((releaseTarget s.cue.target s.scenes).get i).state =
        if (s.scenes.get i).state = .cued then .ready else (s.scenes.get i).state := fun i => by
      have := cued i
      rw [releaseTarget_get]
      grind
    refine ⟨fun i => ?_, fun i j hi hj => ?_, fun i j hi hj => ?_, ?_, ?_, fun i hi => ?_, nofun, fun i => ?_⟩
    all_goals dsimp only at *
    · rw [releaseTarget_get]
      exact lawful i
    · rw [moved] at hi hj
      exact active i j (by grind) (by grind)
    · rw [moved] at hi hj
      exact outgoing i j (by grind) (by grind)
    · have nowOutgoing : ∀ i, ((releaseTarget s.cue.target s.scenes).get i).state = .outgoing ↔
          (s.scenes.get i).state = .outgoing := fun i => by
        rw [moved]
        grind
      simp only [nowOutgoing, stillFades]
      exact fades
    · rw [disarmed]
      exact ⟨nofun, nofun⟩
    · rw [moved] at hi
      grind
    · rw [moved, ← checks i]
      grind
  · exact h

/-! ## A computation -/

theorem State.SceneLaw.testCue {s : State} (h : s.SceneLaw) (k : FrameNo) : (s.testCue k).SceneLaw := by
  cases due : s.fires k with
  | true =>
    rw [State.testCue_of_fires due]
    exact h.fire due
  | false =>
    rw [State.testCue_of_waits due]
    exact h.of_scenes rfl rfl ⟨rfl, rfl, rfl⟩

/-- R124, R125: the weight rises, and the crossfade ends at 8192. -/
theorem State.SceneLaw.tickFade {s : State} (h : s.SceneLaw) (fired : Bool) : (s.tickFade fired).SceneLaw := by
  have raised : State.SceneLaw { s with cue := s.cue.raise } := h.of_scenes rfl rfl ⟨rfl, rfl, rfl⟩
  unfold State.tickFade
  split
  · rename_i running
    dsimp only
    split
    · exact raised.endFade (Bool.and_eq_true_iff.1 running).1
    · exact raised
  · exact h

theorem State.SceneLaw.rampTick {s : State} (h : s.SceneLaw) (fired : Bool) : (s.rampTick fired).SceneLaw := by
  have gated : State.SceneLaw (State.tickGates (State.formHold s.tickLevel)) :=
    h.of_scenes (by simp) (by simp) (by simp)
  exact (gated.tickFade fired).of_scenes (by simp [State.rampTick]) (by simp [State.rampTick]) ⟨rfl, rfl, rfl⟩

theorem State.SceneLaw.beginComputation {s : State} (h : s.SceneLaw) (k : FrameNo) :
    (s.beginComputation k).SceneLaw := by
  have tested : (s.sampleHold.testCue k).SceneLaw := State.SceneLaw.testCue (s := s.sampleHold) h k
  by_cases ht : k.toNat % 48 = 0
  · rw [s.beginComputation_tick k ht]
    exact tested.rampTick _
  · rw [s.beginComputation_between k ht]
    exact tested

/-- R108: the samples of a computation move the scenes by the Check Unit alone. -/
theorem State.SceneLaw.runSamples {s : State} (h : s.SceneLaw) (k : FrameNo) : (s.runSamples k).SceneLaw := by
  have counted : State.SceneLaw ((s.runPickups k).countFeedClips ((s.runPickups k).feedClips k)) :=
    h.of_scenes (by simp) (by simp) (by simp)
  exact counted.advanceCheck.of_scenes (by simp [State.runSamples]) (by simp [State.runSamples])
    (by simp [State.runSamples])

theorem State.SceneLaw.compute {s : State} (h : s.SceneLaw) (k : FrameNo) : (s.compute k).SceneLaw := by
  have samples := (h.beginComputation k).runSamples k
  by_cases ht : k.toNat % 48 = 0
  · rw [s.compute_tick k ht]
    exact samples.of_scenes (by simp) (by simp) (by simp)
  · rw [s.compute_between k ht]
    exact samples

/-! ## Every step -/

/-- R99, R123: the law is kept by every operation that moves what it reads. -/
theorem keptByStores_sceneLaw : KeptByStores State.SceneLaw where
  reads hs hv := by
    simp only [State.storeView, Prod.mk.injEq] at hv
    obtain ⟨-, -, -, scenes, check, cue⟩ := hv
    exact hs.of_scenes scenes (by rw [check]) (by rw [cue]; exact ⟨rfl, rfl, rfl⟩)
  powerOn := State.powerOn_sceneLaw
  compute k hs := hs.compute k
  clearMemories hs := hs.of_scenes (by simp) (by simp) (by simp)
  fillBuffer f hs := hs.of_scenes (by simp) (by simp) (by simp)
  abortCheck hs := hs.abortCheck
  coreShaped _ hs := hs
  checkPass hc _ hs := hs.endCheckPass hc
  checkFail hc _ hs := hs.endCheckFail hc _ _
  fire due hs := hs.fire due
  endFade running hs := hs.endFade running
  shapeCore c lengths _ _ hs := hs.shapeCore c (clampLengths lengths)
  setHeader p free hs := hs.edit (f := fun sc => { sc with header := headerOf p, state := .editing })
    (fun _ ⟨_, taps⟩ => ⟨headerOf_lawful p, taps⟩) (fun _ => rfl) nofun free
  putTaps p count free _ hs := hs.edit
    (f := fun sc => { sc with taps := writeTaps sc.taps _ (tapRecords p count), state := .editing })
    (fun _ stored => stored.putTaps (tapRecords_lawful p count) _ _) (fun _ => rfl) nofun free
  clearScene free hs := hs.edit (f := fun _ => Scene.reset) (fun _ _ => Scene.reset_lawful) (fun _ => rfl) nofun free
  passEmpty free _ idle _ hs := hs.replaceScene (f := fun sc => { sc with state := .ready, result := .passed })
    (fun _ stored => stored) (fun _ => rfl) nofun free (by rw [idle]; nofun)
  startCheck r free _ idle hs := hs.startCheck r free idle
  takeCue x b hi hs := hs.takeCue x b hi
  cancelCue hs := hs.cancelCue

/-- Settles O12: the law is kept by the operations of `KeptByStores`, and so by every step. -/
theorem stepKeepsSceneLaw : Obligations.StepKeepsSceneLaw := fun _ _ hs h => keptByStores_sceneLaw.step hs h

end Sys2Proof.Machine
end

section
/-!
PROOFS. Settles O45: the row CUE_FIRE (R60, R92, R100, R121, R122, R126).
-/

namespace Sys2Proof.Machine

/-- R122: with every scene checked against ACTIVE, the crossfade is from silence. -/
theorem State.sceneIn_isNone_eq_all (st : SceneState) (s : State) :
    (s.sceneIn st).isNone = (List.finRange 16).all fun j => (s.scenes.get j).state != st := by
  rw [Bool.eq_iff_iff, State.sceneIn_isNone_iff]
  simp

/-- R122, R126: which of CUE_DEFERRED and CUE_LATE a fire latches, if any. -/
theorem CueUnit.fireEvent_word (k : FrameNo) (c : CueUnit) : (c.fireEvent k).elim 0 Event.word =
    if c.frameX = k ∨ c.immediate = true then 0
    else if c.deferred && c.firstTest then Event.word .cueDeferred else Event.word .cueLate := by
  unfold CueUnit.fireEvent
  split
  · rfl
  · split <;> rfl

/-- R18, R121: the row fires a due cue, and else changes nothing. -/
theorem exec_cueFire {s : State} (h : s.computes = true) (k : FrameNo) :
    exec (.cueFire k) s = .next (if s.fires k then s.fire k else s) :=
  State.next_whileComputing h _

/-- Settles O45. -/
theorem dueCueFires : Obligations.DueCueFires := by
  intro s i k computes _ armed target
  refine ⟨fun due => ?_, fun waits early ahead => ?_⟩
  · intro silence
    have fromSilence : (s.sceneIn .active).isNone = silence := s.sceneIn_isNone_eq_all .active
    have fired : exec (.cueFire k) s = .next (s.fireTarget i k) := by
      rw [exec_cueFire computes, if_pos ((s.fires_iff k).2 ⟨armed, due⟩), State.fire_of_target target]
    refine ⟨_, fired, ?_⟩
    rw [State.fireTarget_eq, fromSilence]
    refine ⟨fireScenes_get i s.scenes, rfl, fun c => ?_, rfl, ?_, rfl⟩
    · exact Bank.get_map ..
    · exact congrArg (s.events.latch ||| Event.word .cueFired ||| ·) (s.cue.fireEvent_word k)
  · have still : s.fires k = false := by
      refine Bool.eq_false_iff.2 fun due => ?_
      rcases ((s.fires_iff k).1 due).2 with now | reached | passed
      · rw [waits] at now
        cases now
      · exact early (by bv_omega)
      · omega
    rw [exec_cueFire computes, still]
    rfl

end Sys2Proof.Machine
end

section
/-!
PROOFS. Settles O26: the bounds of a crossfade, of the damping and of the absorption (R70, R83, R84, R93).
-/

namespace Sys2Proof.Machine

/-- A weighted sum of two values lies between any bounds of both. -/
theorem weighted_mem {a b lo hi : Int} {w : Nat} (la : lo ≤ a) (lb : lo ≤ b) (ah : a ≤ hi) (bh : b ≤ hi)
    (hw : w ≤ 8192) : lo * 8192 ≤ a * (8192 - (w : Int)) + b * w ∧ a * (8192 - (w : Int)) + b * w ≤ hi * 8192 := by
  have rest : 0 ≤ 8192 - (w : Int) := by omega
  have weight : 0 ≤ (w : Int) := Int.natCast_nonneg w
  have split : ∀ x : Int, x * 8192 = x * (8192 - (w : Int)) + x * w := fun x => by ring
  rw [split lo, split hi]
  exact ⟨add_le_add (Int.mul_le_mul_of_nonneg_right la rest) (Int.mul_le_mul_of_nonneg_right lb weight),
    add_le_add (Int.mul_le_mul_of_nonneg_right ah rest) (Int.mul_le_mul_of_nonneg_right bh weight)⟩

/-- R70: a crossfade lies between its ends. -/
theorem crossfade_mem (old new : Int) {w : Nat} (hw : w ≤ 8192) :
    min old new ≤ crossfade old new w ∧ crossfade old new w ≤ max old new := by
  obtain ⟨lower, upper⟩ := weighted_mem (Int.min_le_left old new) (Int.min_le_right old new)
    (Int.le_max_left old new) (Int.le_max_right old new) hw
  unfold crossfade
  omega

theorem crossfade_ends (old new : Int) : crossfade old new 0 = old ∧ crossfade old new 8192 = new := by
  unfold crossfade
  constructor <;> push_cast <;> omega

/-- R93: core targets are interpolated as values are. -/
theorem crossfadeNat_cast (old new : Nat) {w : Nat} (hw : w ≤ 8192) :
    (crossfadeNat old new w : Int) = crossfade old new w := by
  unfold crossfadeNat crossfade
  push_cast [Nat.cast_sub hw]
  rfl

/-- R83: a smoothed sample lies between the oldest sample and the damping state. -/
theorem smooth_mem {d : Nat} (hd : d ≤ 240) (y z : Int) : min y z ≤ smooth d y z ∧ smooth d y z ≤ max y z := by
  have damping : 0 ≤ (d : Int) := Int.natCast_nonneg d
  have most : (d : Int) ≤ 240 := by omega
  unfold smooth
  rcases Int.le_total y z with rising | falling
  · have lower : 0 ≤ (d : Int) * (z - y) := Int.mul_nonneg damping (by omega)
    have upper : (d : Int) * (z - y) ≤ 240 * (z - y) := Int.mul_le_mul_of_nonneg_right most (by omega)
    omega
  · have lower : 240 * (z - y) ≤ (d : Int) * (z - y) := Int.mul_le_mul_of_nonpos_right most (by omega)
    have upper : (d : Int) * (z - y) ≤ 0 := Int.mul_nonpos_of_nonneg_of_nonpos damping (by omega)
    omega

/-- R84: a sample times a gain of at most unity, rounded, is no greater in magnitude. -/
theorem scale23_natAbs_le {g : Nat} (hg : g ≤ 8388608) (z : Int) : (scale23 ((g : Int) * z)).natAbs ≤ z.natAbs := by
  have positive : 0 ≤ (g : Int) := Int.natCast_nonneg g
  have unity : (g : Int) ≤ 8388608 := by omega
  unfold scale23
  rcases Int.le_total 0 z with hz | hz
  · have lower : 0 ≤ (g : Int) * z := Int.mul_nonneg positive hz
    have upper : (g : Int) * z ≤ 8388608 * z := Int.mul_le_mul_of_nonneg_right unity hz
    omega
  · have lower : 8388608 * z ≤ (g : Int) * z := Int.mul_le_mul_of_nonpos_right unity hz
    have upper : (g : Int) * z ≤ 0 := Int.mul_nonpos_of_nonneg_of_nonpos positive hz
    omega

/-- Settles O26, clause by clause. -/
theorem crossfadeAndCoreBounds : Obligations.CrossfadeAndCoreBounds := by
  refine ⟨fun old new _ hw => crossfade_mem old new hw, crossfade_ends, fun old new w hw => ?_, fun old new => ?_,
    fun _ y z hd => smooth_mem hd y z, fun _ z hg => scale23_natAbs_le (by omega) z⟩
  · have cast := crossfadeNat_cast old new hw
    have bounds := crossfade_mem old new hw
    omega
  · have first := crossfadeNat_cast old new (Nat.zero_le 8192)
    have last := crossfadeNat_cast old new (Nat.le_refl 8192)
    have ends := crossfade_ends old new
    omega

end Sys2Proof.Machine
end

section
/-!
PROOFS. Settles O28: the Howl Guard at a ramp tick, one feed and all feeds (R132, R135 to R141).
-/

namespace Sys2Proof.Machine

/-! ## One feed -/

/-- R137: the rise run after the rise test. -/
theorem Guard.runTick_eq (moved : Bool) (p : Nat) (g : Guard) : g.runTick moved p =
    if p > g.prevPeak + g.prevPeak / 16 ∧ gain g.floorCode ≤ p ∧ (if moved then 0 else min 2 (g.settle + 1)) = 2
    then min 64 (g.run + 1) else 0 := by
  simp [Guard.runTick, Guard.rising, Guard.settleTick, and_assoc]

theorem Guard.tick_disabled {g : Guard} (h : g.enable = false) (moved : Bool) (p : Nat) : g.tick moved p = g := by
  simp [Guard.tick, h]

/-- R138: a tick that cuts. -/
theorem Guard.tick_cut {g : Guard} {moved : Bool} {p : Nat} (on : g.enable = true) (h : g.rise ≤ g.runTick moved p) :
    g.tick moved p = { g with
      settle := g.settleTick moved, prevPeak := p, trim := min g.limit (g.trim + g.cutStep), run := 0, state := .cut
      timer := g.quietHold } := by
  simp [Guard.tick, Guard.cuts, Guard.cut, on, h]

/-- R135: a tick that does not cut moves the state. -/
theorem Guard.tick_uncut {g : Guard} {moved : Bool} {p : Nat} (on : g.enable = true) (h : g.runTick moved p < g.rise) :
    g.tick moved p =
      { ({ g with settle := g.settleTick moved, run := g.runTick moved p } : Guard).moveState with prevPeak := p } := by
  have kept : ¬ g.cuts moved p = true := by simp [Guard.cuts, on, h]
  unfold Guard.tick
  rw [if_pos on]
  dsimp only
  rw [if_neg kept]

/-- R139, R140: what moving the state gives, by the state and its timer or count. -/
theorem Guard.moveState_cases (g : Guard) :
    g.state = .watch ∧ g.moveState = g ∨
    g.state = .cut ∧ 1 < g.timer ∧ g.moveState = { g with timer := g.timer - 1 } ∨
    g.state = .cut ∧ g.timer ≤ 1 ∧ g.moveState = { g with
      timer := 0, state := if g.trim = 0 then .watch else .recover
      count := if g.trim = 0 then 0 else g.interval } ∨
    g.state = .recover ∧ 1 < g.count ∧ g.moveState = { g with count := g.count - 1 } ∨
    g.state = .recover ∧ g.count ≤ 1 ∧ g.moveState = { g with
      trim := g.trim - 1, state := if g.trim ≤ 1 then .watch else .recover
      count := if g.trim ≤ 1 then 0 else g.interval } := by
  unfold Guard.moveState
  cases h : g.state with
  | watch => exact .inl ⟨rfl, rfl⟩
  | cut =>
    unfold Guard.cutTick
    by_cases ht : g.timer ≤ 1
    · exact .inr (.inr (.inl ⟨rfl, ht, by dsimp only; rw [if_pos ht, Guard.holdExpired_eq]⟩))
    · exact .inr (.inl ⟨rfl, by omega, by dsimp only; rw [if_neg ht, h]⟩)
  | recover =>
    unfold Guard.recoverTick
    by_cases hc : g.count ≤ 1
    · exact .inr (.inr (.inr (.inr ⟨rfl, hc, by dsimp only; rw [if_pos hc, Guard.recoveryStep_eq h]⟩)))
    · exact .inr (.inr (.inr (.inl ⟨rfl, by omega, by dsimp only; rw [if_neg hc, h]⟩)))

/-! ## All feeds -/

/-- R141: the live condition of HOWL_LIMIT. -/
theorem State.liveHowlLimit_iff (s : State) : s.liveHowlLimit = true ↔ ∃ f, (s.guards.get f).enable = true ∧
    (s.guards.get f).state ≠ .watch ∧ (s.guards.get f).trim = (s.guards.get f).limit := by
  have acting : ∀ st : GuardState, (st = .cut ∨ st = .recover) ↔ st ≠ .watch := fun st => by cases st <;> simp
  simp [State.liveHowlLimit, Bank.any_iff, Guard.atLimit, acting, and_assoc]

/-- R135, R141: the Howl Guard moves the guards, the peaks, the mark GUARD and the latches alone. -/
theorem State.tickGuard_eq (m : Fin 32 → Bool) (s : State) : s.tickGuard m = { s with
    guards := (s.tickGuard m).guards
    taps := { s.taps with peaks := (s.tickGuard m).taps.peaks }
    hold := { s.hold with guard := (s.tickGuard m).hold.guard }
    events := { s.events with latch := (s.tickGuard m).events.latch } } := by
  simp only [State.tickGuard, State.latchIf_eq]

/-- Settles O28. -/
theorem guardMovesAtTick : Obligations.GuardMovesAtTick := by
  refine ⟨fun g moved p off => Guard.tick_disabled off moved p, fun g moved p on => ?_, fun s moved => ?_⟩
  · intro settle rising run
    have ran : g.runTick moved p = run := g.runTick_eq moved p
    rcases Nat.lt_or_ge run g.rise with uncut | cut
    · rw [Guard.tick_uncut on (ran ▸ uncut), ran]
      have moves := Guard.moveState_cases { g with settle := g.settleTick moved, run := run }
      have settled : g.settleTick moved = settle := rfl
      have below : ¬ g.rise ≤ run := Nat.not_le.2 uncut
      rcases moves with ⟨state, next⟩ | ⟨state, due, next⟩ | ⟨state, due, next⟩ | ⟨state, due, next⟩ |
        ⟨state, due, next⟩ <;> rw [next] <;> dsimp only at state
      · simp [uncut, below, settled, state]
      · simp [uncut, below, settled, state, due, Nat.not_le.2 due]
      · simp +contextual [uncut, below, settled, state, due, Nat.not_lt.2 due]
      · simp [uncut, below, settled, state, due, Nat.not_le.2 due]
      · simp [uncut, below, settled, state, due, Nat.not_lt.2 due]
    · rw [Guard.tick_cut on (ran ▸ cut)]
      have uncut : ¬ run < g.rise := Nat.not_lt.2 cut
      simp only [uncut, false_imp_iff, cut, true_imp_iff, true_and, and_true]
      rfl
  · intro t cut found
    have cuts : ∀ f, (s.guards.get f).cuts (moved f) (s.taps.peaks.get f) = true ↔ cut f :=
      fun f => Guard.cuts_iff ..
    have finds : ∀ f, (s.guards.get f).cutsAtLimit (moved f) (s.taps.peaks.get f) = true ↔ found f :=
      fun f => Guard.cutsAtLimit_iff ..
    have latches := (s.tickGuard_events moved).2
    have guarding := s.tickGuard_hold_guard moved
    simp only [cuts, finds] at latches guarding
    refine ⟨s.tickGuard_guards moved, s.tickGuard_peaks moved, guarding, ?_, ?_, s.liveHowlLimit_iff,
      s.tickGuard_eq moved, fun e hc hl => ?_⟩
    · simpa using latches .howlCut
    · simpa using latches .howlLimit
    · exact State.tickGuard_latched_other (by simp [hc, hl])

end Sys2Proof.Machine
end

section
/-!
PROOFS. Settles O33: the Cue Unit, the wander counts, the gain sets and the running scenes and cores in a computation
(R60, R62, R92, R100, R121, R122, R124 to R126). A computation tests the cue; at a tick the crossfade then moves, and
the wander counts and the gain sets follow the scenes that are left.
-/

namespace Sys2Proof.Machine

/-! ## The crossfade at a tick (R124, R125) -/

/-- R124: without a crossfade, or in the computation of its fire, the tick moves nothing of it. -/
theorem State.tickFade_still {s : State} {fired : Bool} (h : s.cue.state.fades = false ∨ fired = true) :
    s.tickFade fired = s := by
  have still : ¬ (s.cue.state.fades && !fired) = true := by
    rcases h with h | h <;> simp [h]
  rw [State.tickFade, if_neg still]

/-- R124: below 8192 the weight rises by its step. -/
theorem State.tickFade_rises {s : State} (h : s.cue.state.fades = true) (below : s.cue.weight + s.cue.stepSize < 8192) :
    s.tickFade false = { s with cue := { s.cue with weight := s.cue.weight + s.cue.stepSize } } := by
  have risen : min 8192 (s.cue.weight + s.cue.stepSize) = s.cue.weight + s.cue.stepSize := by omega
  simp only [State.tickFade, CueUnit.raise, risen]
  rw [if_pos (by rw [h]; rfl), if_neg (by omega)]

/-- R125: at 8192 the crossfade ends as its row ends it. -/
theorem State.tickFade_ends {s : State} (h : s.cue.state.fades = true) (full : 8192 ≤ s.cue.weight + s.cue.stepSize) :
    s.tickFade false = s.endFade := by
  have top : min 8192 (s.cue.weight + s.cue.stepSize) = 8192 := by omega
  simp only [State.tickFade, CueUnit.raise, top]
  rw [if_pos (by rw [h]; rfl), if_pos (Nat.le_refl _)]
  rfl

/-! ## What the cue test and the crossfade look at -/

/-- The scenes, the cores and the Cue Unit stand in `t` as in `s`. -/
def State.SameCue (s t : State) : Prop := t.scenes = s.scenes ∧ t.cores = s.cores ∧ t.cue = s.cue

theorem State.SameCue.tickFade {s t : State} (h : s.SameCue t) (fired : Bool) :
    (s.tickFade fired).SameCue (t.tickFade fired) := by
  obtain ⟨scenes, cores, cue⟩ := h
  unfold State.tickFade
  rw [cue]
  split
  · dsimp only
    split
    · exact ⟨by simp [scenes], by simp [cores], rfl⟩
    · exact ⟨scenes, cores, rfl⟩
  · exact ⟨scenes, cores, cue⟩

/-- R146: the sample of HOLD_N touches nothing that the cue test looks at. -/
theorem State.testCue_sampleHold (k : FrameNo) (s : State) : s.sampleHold.testCue k = (s.testCue k).sampleHold := by
  cases due : s.fires k with
  | true =>
    have sampled : s.sampleHold.fires k = true := due
    rw [State.testCue_of_fires due, State.testCue_of_fires sampled]
    cases target : s.cue.target with
    | none => simp [State.fire, target]
    | some t =>
      rw [State.fire_of_target target, State.fire_of_target (s := s.sampleHold) target, State.fireTarget_eq,
        State.fireTarget_eq]
      rfl
  | false =>
    have sampled : s.sampleHold.fires k = false := due
    rw [State.testCue_of_waits due, State.testCue_of_waits sampled]
    rfl

/-! ## The wander counts and the gain sets (R60, R62) -/

/-- R62: the wander counts advanced, with `p` the period of the ACTIVE and `q` that of the OUTGOING scene. -/
def CueUnit.wanders (p q : Nat) (fired : Bool) (c : CueUnit) : CueUnit := { c with
  wanderActive := if fired then c.wanderActive else c.wanderActive.map (wanderNext p)
  wanderOutgoing := c.wanderOutgoing.map (wanderNext q) }

/-- R62: the period of the one scene in a state. -/
theorem State.periodOf_eq {s : State} {st : SceneState} {i : Fin 16} (hi : (s.scenes.get i).state = st)
    (unique : ∀ j, (s.scenes.get j).state = st → j = i) : s.periodOf st = (s.scenes.get i).header.wander := by
  simp [State.periodOf, State.sceneIn_eq_some hi unique]

/-- R60: the gain set of the one scene in a state. -/
theorem State.gainsOf_eq {s : State} {st : SceneState} {i : Fin 16} (hi : (s.scenes.get i).state = st)
    (unique : ∀ j, (s.scenes.get j).state = st → j = i) (n : Option Nat) :
    s.gainsOf st n = some (gainSet s.level.groups (s.scenes.get i) (n.getD 0)) := by
  simp [State.gainsOf, State.sceneIn_eq_some hi unique]

/-- R99: there is at most one ACTIVE and one OUTGOING scene. -/
theorem State.SceneLaw.unique {s : State} (h : s.SceneLaw) {st : SceneState}
    (runs : st ∈ [SceneState.active, .outgoing]) {i : Fin 16} (hi : (s.scenes.get i).state = st) (j : Fin 16) (hj : (s.scenes.get j).state = st) : j = i := by
  obtain ⟨-, active, outgoing, -⟩ := h
  simp only [List.mem_cons, List.not_mem_nil, or_false] at runs
  rcases runs with rfl | rfl
  · exact active j i hj hi
  · exact outgoing j i hj hi

/-- R100, R122: a fire starts a crossfade at weight 0, and a scene that was ACTIVE becomes OUTGOING with its wander
count. -/
theorem State.SceneLaw.fire_cue {k : FrameNo} {s : State} (h : s.SceneLaw) (due : s.fires k = true) :
    (s.fire k).cue.state = .fading ∧ (s.fire k).cue.weight = 0 ∧ (s.fire k).cue.wanderActive = some 0 ∧
    ∀ i, (s.scenes.get i).state = .active →
      (s.fire k).scenes.get i = { s.scenes.get i with state := .outgoing } ∧
      (s.fire k).cue.wanderOutgoing = s.cue.wanderActive := by
  obtain ⟨g, target, cued, -, -⟩ := h.armed_target ((s.fires_iff k).1 due).1
  rw [State.fire_of_target target, State.fireTarget_eq]
  refine ⟨rfl, rfl, rfl, fun i active => ⟨?_, ?_⟩⟩
  · have other : i ≠ g := by
      rintro rfl
      rw [active] at cued
      cases cued
    dsimp only
    rw [fireScenes_get, if_neg other, if_pos active]
  · exact if_neg fun silence => (s.sceneIn_isNone_iff .active).1 silence i active

/-! ## The beginning of a computation -/

/-- R121: between ticks a computation begins with the cue test. -/
theorem State.beginComputation_cue_between (k : FrameNo) (s : State) (h : k.toNat % 48 ≠ 0) :
    (s.testCue k).SameCue (s.beginComputation k) ∧ (s.beginComputation k).taps = (s.testCue k).taps := by
  rw [s.beginComputation_between k h, State.testCue_sampleHold]
  exact ⟨⟨rfl, rfl, rfl⟩, rfl⟩

/-- R62, R121, R124: at a tick the crossfade moves after the cue test, and the wander counts after both. -/
theorem State.beginComputation_cue_tick (k : FrameNo) (s : State) (h : k.toNat % 48 = 0) :
    let f := (s.testCue k).tickFade (s.fires k)
    (s.beginComputation k).scenes = f.scenes ∧ (s.beginComputation k).cores = f.cores ∧
    (s.beginComputation k).cue = f.cue.wanders (f.periodOf .active) (f.periodOf .outgoing) (s.fires k) := by
  intro f
  have before : (s.testCue k).SameCue (State.tickGates (State.formHold (s.testCue k).sampleHold.tickLevel)) :=
    ⟨by simp, by simp, by simp⟩
  obtain ⟨scenes, cores, cue⟩ := before.tickFade (s.fires k)
  have fires : s.sampleHold.fires k = s.fires k := rfl
  rw [s.beginComputation_tick k h, State.testCue_sampleHold, fires]
  refine ⟨scenes, cores, ?_⟩
  simp only [State.rampTick, State.tickGains_cue, State.tickWander, State.periodOf, State.sceneIn, scenes, cue]
  rfl

/-- R60: at a tick the gain sets are formed from what the tick has left. -/
theorem State.beginComputation_gains_tick (k : FrameNo) (s : State) (h : k.toNat % 48 = 0) :
    let b := s.beginComputation k
    b.taps.gainActive = b.gainsOf .active b.cue.wanderActive ∧
    b.taps.gainOutgoing = b.gainsOf .outgoing b.cue.wanderOutgoing := by
  intro b
  have begun : b = _ := s.beginComputation_tick k h
  rw [begun]
  exact ⟨rfl, rfl⟩

section
variable {k : FrameNo} {s : State}

/-- R121: a crossfade leaves no cue that could fire. -/
theorem State.fires_of_fades (h : s.cue.state.fades = true) : s.fires k = false := by
  refine Bool.eq_false_iff.2 fun due => ?_
  rw [((s.fires_iff k).1 due).1] at h
  cases h

theorem State.begins_waiting_between (h : k.toNat % 48 ≠ 0) (waits : s.fires k = false) :
    (s.beginComputation k).scenes = s.scenes ∧ (s.beginComputation k).cores = s.cores ∧
    (s.beginComputation k).cue = s.cue.waited ∧ (s.beginComputation k).taps = s.taps := by
  obtain ⟨⟨scenes, cores, cue⟩, taps⟩ := s.beginComputation_cue_between k h
  rw [State.testCue_of_waits waits] at scenes cores cue taps
  exact ⟨scenes, cores, cue, taps⟩

theorem State.begins_firing_between (h : k.toNat % 48 ≠ 0) (due : s.fires k = true) :
    (s.fire k).SameCue (s.beginComputation k) ∧ (s.beginComputation k).taps = (s.fire k).taps :=
  State.testCue_of_fires due ▸ s.beginComputation_cue_between k h

/-- R124: a fire at a tick is no tick for the crossfade it starts, but for the scene that it makes OUTGOING. -/
theorem State.begins_firing_tick (h : k.toNat % 48 = 0) (due : s.fires k = true) :
    (s.beginComputation k).scenes = (s.fire k).scenes ∧ (s.beginComputation k).cores = (s.fire k).cores ∧
    (s.beginComputation k).cue =
      (s.fire k).cue.wanders ((s.fire k).periodOf .active) ((s.fire k).periodOf .outgoing) true := by
  have begun := s.beginComputation_cue_tick k h
  rwa [due, State.testCue_of_fires due, State.tickFade_still (.inr rfl)] at begun

/-- R124: a tick without a fire, which does not bring the weight to 8192. -/
theorem State.begins_going_on (h : k.toNat % 48 = 0) (waits : s.fires k = false)
    (below : s.cue.state.fades = false ∨ s.cue.weight + s.cue.stepSize < 8192) :
    (s.beginComputation k).scenes = s.scenes ∧ (s.beginComputation k).cores = s.cores ∧
    (s.beginComputation k).cue = ({ s.cue.waited with
      weight := if s.cue.state.fades then s.cue.weight + s.cue.stepSize else s.cue.weight } : CueUnit).wanders
        (s.periodOf .active) (s.periodOf .outgoing) false := by
  have begun := s.beginComputation_cue_tick k h
  rw [waits, State.testCue_of_waits waits] at begun
  cases running : s.cue.state.fades with
  | false =>
    rwa [State.tickFade_still (s := { s with cue := s.cue.waited }) (.inl running)] at begun
  | true =>
    have raises : s.cue.weight + s.cue.stepSize < 8192 := by simpa [running] using below
    rwa [State.tickFade_rises (s := { s with cue := s.cue.waited }) running raises] at begun

/-- R125: a tick that brings the weight to 8192 ends the crossfade. -/
theorem State.begins_ending (h : k.toNat % 48 = 0) (running : s.cue.state.fades = true)
    (full : 8192 ≤ s.cue.weight + s.cue.stepSize) :
    (s.beginComputation k).scenes = s.endFade.scenes ∧ (s.beginComputation k).cores = s.endFade.cores ∧
    (s.beginComputation k).cue =
      { s.cue.endFade with wanderActive := s.cue.wanderActive.map (wanderNext (s.endFade.periodOf .active)) } := by
  have waits : s.fires k = false := State.fires_of_fades running
  have other : s.cue.state ≠ .armed := fun armed => by
    rw [armed] at running
    cases running
  have begun := s.beginComputation_cue_tick k h
  rwa [waits, State.testCue_of_waits waits, CueUnit.waited_of_ne other, State.tickFade_ends running full] at begun

end

/-! ## The whole computation -/

/-- Neither the samples nor the Howl Guard touch the levels, the Cue Unit or the gain sets. -/
theorem State.compute_cue (k : FrameNo) (s : State) :
    (s.compute k).cue = (s.beginComputation k).cue ∧
    (s.compute k).taps.gainActive = (s.beginComputation k).taps.gainActive ∧
    (s.compute k).taps.gainOutgoing = (s.beginComputation k).taps.gainOutgoing := by
  have samples : ∀ b : State, (b.runSamples k).taps.gainActive = b.taps.gainActive ∧
      (b.runSamples k).taps.gainOutgoing = b.taps.gainOutgoing := fun b => by
    simp [State.runSamples, State.recordPeaks]
  have guards : ∀ (b : State) (m : Fin 32 → Bool), (b.tickGuard m).taps.gainActive = b.taps.gainActive ∧
      (b.tickGuard m).taps.gainOutgoing = b.taps.gainOutgoing := fun b m => by
    simp [State.tickGuard]
  by_cases h : k.toNat % 48 = 0
  · rw [s.compute_tick k h, (guards ..).1, (guards ..).2]
    exact ⟨by simp, samples _⟩
  · rw [s.compute_between k h]
    exact ⟨by simp, samples _⟩

/-- R186: the cue's events are neither the samples' nor the Howl Guard's. -/
theorem cueEvent_other {e : Event} (he : e ∈ [Event.cueFired, .cueLate, .cueDeferred]) :
    e ∉ [Event.lateReturn, .feedClip, .coreClip] ∧ e ∉ [Event.howlCut, .howlLimit] := by
  simp only [List.mem_cons, List.not_mem_nil, or_false] at he
  rcases he with rfl | rfl | rfl <;> simp

/-- R122: the cue's events are latched by the cue test alone. -/
theorem State.compute_cueEvents (k : FrameNo) (s : State) (e : Event)
    (he : e ∈ [Event.cueFired, .cueLate, .cueDeferred]) :
    (s.compute k).events.latched e = (s.testCue k).events.latched e := by
  have begun : (s.beginComputation k).events.latched e = (s.testCue k).events.latched e := by
    by_cases h : k.toNat % 48 = 0
    · rw [s.beginComputation_tick k h, State.testCue_sampleHold, Events.latched_eq, State.rampTick_events,
        BitVec.getLsbD_or, Event.wordIf_bit]
      simp only [List.mem_cons, List.not_mem_nil, or_false] at he
      rcases he with rfl | rfl | rfl <;> simp [Events.latched_eq]
    · rw [s.beginComputation_between k h, State.testCue_sampleHold]
      rfl
  have samples : ((s.beginComputation k).runSamples k).events.latched e = (s.beginComputation k).events.latched e :=
    ((s.beginComputation k).runSamples_events k).2 e (cueEvent_other he).1
  rw [← begun, ← samples]
  by_cases h : k.toNat % 48 = 0
  · rw [s.compute_tick k h]
    exact State.tickGuard_latched_other (cueEvent_other he).2
  · rw [s.compute_between k h]

/-- R108: the Check Unit leaves the record of a locked scene. -/
theorem State.advanceCheck_locked {s : State} {i : Fin 16} (h : (s.advanceCheck.scenes.get i).state.locked = true) :
    s.advanceCheck.scenes.get i = s.scenes.get i := by
  have kept : ∀ (j : Fin 16) (f : Scene → Scene), (∀ sc, (f sc).state.locked = false) →
      ((s.scenes.modify j f).get i).state.locked = true → (s.scenes.modify j f).get i = s.scenes.get i := by
    intro j f free locked
    by_cases hi : i = j
    · subst hi
      rw [Bank.get_modify_self, free] at locked
      cases locked
    · exact Bank.get_modify_of_ne _ hi _
  revert h
  unfold State.advanceCheck
  split
  · exact fun _ => rfl
  · split
    · simp only [State.endCheckFail, State.pushReply?_frame]
      exact kept _ _ fun _ => rfl
    · simp only [State.endCheckPass, State.pushReply?_frame]
      exact kept _ _ fun _ => rfl
    · exact fun _ => rfl

/-- R99, R108: a scene that is locked after a computation has the record with which its samples began. -/
theorem State.compute_locked {k : FrameNo} {s : State} {i : Fin 16}
    (h : ((s.compute k).scenes.get i).state.locked = true) :
    (s.compute k).scenes.get i = (s.beginComputation k).scenes.get i := by
  have scenes : (s.compute k).scenes = ((s.beginComputation k).runSamples k).scenes := by
    by_cases ht : k.toNat % 48 = 0
    · rw [s.compute_tick k ht]
      simp
    · rw [s.compute_between k ht]
  have samples : ((s.beginComputation k).runSamples k).scenes =
      (((s.beginComputation k).runPickups k).countFeedClips
        (((s.beginComputation k).runPickups k).feedClips k)).advanceCheck.scenes := by
    simp [State.runSamples]
  rw [scenes, samples] at h ⊢
  rw [State.advanceCheck_locked h]
  simp

/-! ## The clauses -/

/-- R18, R125: the row ends a crossfade whose next step reaches 8192. -/
theorem exec_crossfadeEnd {s : State} (h : s.computes = true) (running : s.cue.state.fades = true)
    (full : 8192 ≤ s.cue.weight + s.cue.stepSize) : exec .crossfadeEnd s = .next s.endFade :=
  (State.next_whileComputing h _).trans (congrArg _ (if_pos ⟨running, full⟩))

section
variable {k : FrameNo} {s : State}

/-- R121, R122: a computation that fires leaves what the fire alone leaves, but that a tick then advances the wander
count of the scene it made OUTGOING and forms the gain sets anew. -/
theorem State.compute_fires (due : s.fires k = true) :
    (s.beginComputation k).scenes = (s.fire k).scenes ∧ (s.beginComputation k).cores = (s.fire k).cores ∧
    (s.compute k).cue = { (s.fire k).cue with wanderOutgoing := (s.compute k).cue.wanderOutgoing } ∧
    ((s.fire k).cue.wanderOutgoing = none → (s.compute k).cue.wanderOutgoing = none) ∧
    (k.toNat % 48 ≠ 0 → (s.compute k).cue = (s.fire k).cue ∧
      (s.compute k).taps.gainActive = (s.fire k).taps.gainActive ∧
      (s.compute k).taps.gainOutgoing = (s.fire k).taps.gainOutgoing) := by
  obtain ⟨cue, gainActive, gainOutgoing⟩ := s.compute_cue k
  by_cases h : k.toNat % 48 = 0
  · obtain ⟨scenes, cores, begun⟩ := State.begins_firing_tick h due
    rw [cue, begun]
    exact ⟨scenes, cores, rfl, fun silent => by rw [CueUnit.wanders, silent]; rfl, fun other => absurd h other⟩
  · obtain ⟨⟨scenes, cores, begun⟩, taps⟩ := State.begins_firing_between h due
    rw [cue, begun, gainActive, gainOutgoing, taps]
    exact ⟨scenes, cores, rfl, id, fun _ => ⟨rfl, rfl, rfl⟩⟩

/-- R122, R125: without a fire and without an end of the crossfade the scenes and the cores stand. -/
theorem State.begins_with_scenes (waits : s.fires k = false)
    (still : k.toNat % 48 ≠ 0 ∨ s.cue.state.fades = false ∨ s.cue.weight + s.cue.stepSize < 8192) :
    (s.beginComputation k).scenes = s.scenes ∧ (s.beginComputation k).cores = s.cores := by
  by_cases h : k.toNat % 48 = 0
  · obtain ⟨scenes, cores, -⟩ := State.begins_going_on h waits (still.resolve_left (not_not.2 h))
    exact ⟨scenes, cores⟩
  · obtain ⟨scenes, cores, -⟩ := State.begins_waiting_between h waits
    exact ⟨scenes, cores⟩

/-- R124: at a tick with neither a fire nor an end only the weight, the wander counts and the test mark move. -/
theorem State.compute_goes_on (h : k.toNat % 48 = 0) (waits : s.fires k = false)
    (below : s.cue.state.fades = false ∨ s.cue.weight + s.cue.stepSize < 8192) :
    (s.compute k).cue = { s.cue.waited with
      weight := (s.compute k).cue.weight
      wanderActive := (s.compute k).cue.wanderActive
      wanderOutgoing := (s.compute k).cue.wanderOutgoing } ∧
    (s.cue.state.fades = false → (s.compute k).cue.weight = s.cue.weight) ∧
    (s.cue.wanderOutgoing = none → (s.compute k).cue.wanderOutgoing = none) := by
  obtain ⟨-, -, begun⟩ := State.begins_going_on h waits below
  rw [(s.compute_cue k).1, begun]
  refine ⟨rfl, fun settled => ?_, fun silent => ?_⟩
  · rw [settled]
    rfl
  · show s.cue.wanderOutgoing.map _ = _
    rw [silent]
    rfl

/-- R62: without a fire the wander count of the ACTIVE scene is advanced at a tick, or stands. -/
theorem State.compute_wanderActive (waits : s.fires k = false) :
    ((s.compute k).cue.wanderActive = s.cue.wanderActive ∧ k.toNat % 48 ≠ 0) ∨
    ∃ f, (f = s ∨ s.cue.state.fades = true ∧ f = s.endFade) ∧
      (s.compute k).cue.wanderActive = s.cue.wanderActive.map (wanderNext (f.periodOf .active)) := by
  rw [(s.compute_cue k).1]
  by_cases h : k.toNat % 48 = 0
  · by_cases below : s.cue.state.fades = false ∨ s.cue.weight + s.cue.stepSize < 8192
    · obtain ⟨-, -, begun⟩ := State.begins_going_on h waits below
      rw [begun]
      exact .inr ⟨s, .inl rfl, rfl⟩
    · obtain ⟨running, full⟩ := not_or.1 below
      have fades : s.cue.state.fades = true := by simpa using running
      obtain ⟨-, -, begun⟩ := State.begins_ending h fades (Nat.not_lt.1 full)
      rw [begun]
      exact .inr ⟨s.endFade, .inr ⟨fades, rfl⟩, rfl⟩
  · obtain ⟨-, -, begun, -⟩ := State.begins_waiting_between h waits
    rw [begun]
    exact .inl ⟨rfl, h⟩

/-- R62: the ACTIVE scene keeps its period through the end of a crossfade. -/
theorem State.SceneLaw.periodOf_active (law : s.SceneLaw) {f : State}
    (hf : f = s ∨ s.cue.state.fades = true ∧ f = s.endFade) {i : Fin 16} (active : (s.scenes.get i).state = .active) :
    f.periodOf .active = (s.scenes.get i).header.wander := by
  rcases hf with rfl | ⟨fades, rfl⟩
  · exact State.periodOf_eq active (law.unique (by simp) active)
  · have stays : s.endFade.scenes.get i = s.scenes.get i := by
      rw [State.endFade_scenes, endFadeScenes_get, if_neg (by rw [active]; nofun)]
    rw [← stays] at active ⊢
    exact State.periodOf_eq active ((law.endFade fades).unique (by simp) active)

/-- R62: at a tick the wander count of the ACTIVE scene advances, with the scene when a fire makes it OUTGOING. -/
theorem State.SceneLaw.wander_advances (law : s.SceneLaw) (h : k.toNat % 48 = 0) {i : Fin 16} {n : Nat}
    (active : (s.scenes.get i).state = .active) (count : s.cue.wanderActive = some n) :
    (s.fires k = false → (s.compute k).cue.wanderActive = some (wanderNext (s.scenes.get i).header.wander n)) ∧
    (s.fires k = true → (s.compute k).cue.wanderOutgoing = some (wanderNext (s.scenes.get i).header.wander n)) := by
  refine ⟨fun waits => ?_, fun due => ?_⟩
  · rcases State.compute_wanderActive waits with ⟨-, other⟩ | ⟨f, hf, advanced⟩
    · exact absurd h other
    · rw [advanced, count, law.periodOf_active hf active]
      rfl
  · obtain ⟨-, -, -, outgoing⟩ := law.fire_cue due
    obtain ⟨scene, carried⟩ := outgoing i active
    obtain ⟨-, -, begun⟩ := State.begins_firing_tick h due
    have state : ((s.fire k).scenes.get i).state = .outgoing := by rw [scene]
    rw [(s.compute_cue k).1, begun]
    show (s.fire k).cue.wanderOutgoing.map (wanderNext ((s.fire k).periodOf .outgoing)) = _
    rw [carried, count, State.periodOf_eq state ((law.fire due).unique (by simp) state), scene]
    rfl

/-- R124: a tick of a crossfade that does not reach 8192. -/
theorem State.SceneLaw.fade_rises (law : s.SceneLaw) (h : k.toNat % 48 = 0) (running : s.cue.state.fades = true)
    (below : s.cue.weight + s.cue.stepSize < 8192) :
    (s.compute k).cue.weight = s.cue.weight + s.cue.stepSize ∧ (s.compute k).cue.stepSize = s.cue.stepSize ∧
    (s.compute k).cue.target = s.cue.target ∧ (s.compute k).cue.state = s.cue.state ∧
    ∀ i n, (s.scenes.get i).state = .outgoing → s.cue.wanderOutgoing = some n →
      (s.compute k).cue.wanderOutgoing = some (wanderNext (s.scenes.get i).header.wander n) := by
  obtain ⟨-, -, begun⟩ := State.begins_going_on h (State.fires_of_fades running) (.inr below)
  rw [(s.compute_cue k).1, begun, if_pos running]
  refine ⟨rfl, rfl, rfl, rfl, fun i n outgoing count => ?_⟩
  show s.cue.wanderOutgoing.map (wanderNext (s.periodOf .outgoing)) = _
  rw [count, State.periodOf_eq outgoing (law.unique (by simp) outgoing)]
  rfl

/-- R125: a tick of a crossfade that reaches 8192 leaves the Cue Unit as the end of the crossfade does, but for the
wander count of the ACTIVE scene, and no gain set of an OUTGOING scene. -/
theorem State.SceneLaw.fade_ends (law : s.SceneLaw) (h : k.toNat % 48 = 0) (running : s.cue.state.fades = true)
    (full : 8192 ≤ s.cue.weight + s.cue.stepSize) :
    (s.compute k).cue = { s.cue.endFade with wanderActive := (s.compute k).cue.wanderActive } ∧
    (s.compute k).taps.gainOutgoing = none := by
  obtain ⟨cue, -, gainOutgoing⟩ := s.compute_cue k
  obtain ⟨-, -, begun⟩ := State.begins_ending h running full
  refine ⟨by rw [cue, begun], ?_⟩
  have faded : ∀ i, ((s.beginComputation k).scenes.get i).state ≠ .outgoing := fun i outgoing => by
    obtain ⟨-, -, -, fades, -⟩ := law.beginComputation k
    have still := (fades.1 ⟨i, outgoing⟩).1
    rw [begun, (CueUnit.endFade_marks running).1] at still
    cases still
  rw [gainOutgoing, (s.beginComputation_gains_tick k h).2, State.gainsOf, State.sceneIn_eq_none faded]
  rfl

/-- R60: at a tick the gain sets of the running scenes are formed from the groups as the tick has moved them. -/
theorem State.SceneLaw.gains_formed (law : s.SceneLaw) (h : k.toNat % 48 = 0) :
    (∀ i, ((s.compute k).scenes.get i).state = .active → (s.compute k).taps.gainActive =
      some (gainSet (s.compute k).level.groups ((s.compute k).scenes.get i) ((s.compute k).cue.wanderActive.getD 0))) ∧
    (∀ i, ((s.compute k).scenes.get i).state = .outgoing → (s.compute k).taps.gainOutgoing =
      some (gainSet (s.compute k).level.groups ((s.compute k).scenes.get i)
        ((s.compute k).cue.wanderOutgoing.getD 0))) := by
  obtain ⟨cue, gainActive, gainOutgoing⟩ := s.compute_cue k
  obtain ⟨level, -, -, -⟩ := s.compute_frame_samples k
  obtain ⟨formedActive, formedOutgoing⟩ := s.beginComputation_gains_tick k h
  have begun := law.beginComputation k
  rw [cue, gainActive, gainOutgoing, level, formedActive, formedOutgoing]
  constructor <;> intro i state
  all_goals
    have scene : (s.compute k).scenes.get i = (s.beginComputation k).scenes.get i :=
      State.compute_locked (by rw [state]; rfl)
    rw [scene] at state ⊢
    exact State.gainsOf_eq state (begun.unique (by simp) state) _

end

/-- Settles O33, clause by clause. -/
theorem ticksMoveCrossfadeWanderAndGains : Obligations.TicksMoveCrossfadeWanderAndGains := by
  intro s k law t next b tested
  obtain ⟨cue, gainActive, gainOutgoing⟩ := s.compute_cue k
  have latched := s.compute_cueEvents k
  refine ⟨fun h waits => ?_, s.fires_iff k, fun computes due => ?_, fun waits e he => ?_,
    fun computes h running full => ?_, State.begins_with_scenes, State.compute_goes_on, fun waits silent => ?_,
    fun due => ?_, fun h running => ?_, fun h i n active count => law.wander_advances h active count,
    fun h => law.gains_formed h⟩
  · obtain ⟨-, -, begun, taps⟩ := State.begins_waiting_between h waits
    exact ⟨cue.trans begun, by rw [gainActive, taps], by rw [gainOutgoing, taps]⟩
  · obtain ⟨scenes, cores, fired, silent, between⟩ := State.compute_fires due
    exact ⟨s.fire k, by rw [exec_cueFire computes, if_pos due], scenes, cores, fired, silent, between,
      fun e he => State.testCue_of_fires due ▸ latched e he⟩
  · rw [latched e he, State.testCue_of_waits waits]
  · obtain ⟨scenes, cores, -⟩ := State.begins_ending h running full
    obtain ⟨ended, -⟩ := law.fade_ends h running full
    exact ⟨s.endFade, exec_crossfadeEnd computes running full, scenes, cores, ended⟩
  · rcases State.compute_wanderActive waits with ⟨stays, -⟩ | ⟨f, -, advanced⟩
    · exact stays.trans silent
    · rw [advanced, silent]
      rfl
  · obtain ⟨state, weight, count, -⟩ := law.fire_cue due
    obtain ⟨-, -, fired, -⟩ := State.compute_fires due
    rw [fired]
    exact ⟨state, weight, count⟩
  · rcases Nat.lt_or_ge (s.cue.weight + s.cue.stepSize) 8192 with below | full
    · obtain ⟨weight, step, target, state, wander⟩ := law.fade_rises h running below
      exact ⟨weight.trans (Nat.min_eq_right below.le).symm, step, target, fun _ => ⟨state, wander⟩,
        fun full => absurd below (Nat.not_lt.2 full)⟩
    · obtain ⟨ended, gone⟩ := law.fade_ends h running full
      rw [ended]
      exact ⟨(Nat.min_eq_left full).symm, rfl, rfl, fun below => absurd below (Nat.not_lt.2 full),
        fun _ => ⟨rfl, rfl, rfl, gone⟩⟩

end Sys2Proof.Machine
end

section
/-!
PROOFS. What the Check Unit finds (R108, R109): the tests of a tap look at the cores by their states alone, and a
computation of a check by what the tests find in the next 64 taps.
-/

namespace Sys2Proof.Machine

/-! ## The tests of a tap (R109) -/

/-- R109 tests 1 to 4: source, destination and group name something, and no core feeds a core. -/
def Tap.wellFormed (t : Tap) : Prop :=
  sourceValid t.source = true ∧ destValid t.dest = true ∧ groupValid t.group = true ∧
    ¬ ((coreLine? t.source).isSome = true ∧ (coreLine? t.dest).isSome = true)

/-- R109 test 5: the core that a code names is SHAPED. -/
theorem codeShaped_iff (cores : Bank 4 RevCore) (code : Byte) :
    codeShaped cores code = true ↔ ∀ c, codeCore? code = some c → (cores.get c).state = .shaped := by
  unfold codeShaped
  cases codeCore? code <;> simp

/-- R109: a tap passes when it is well formed and every core it names is SHAPED. -/
theorem checkTap_eq_none_iff (cores : Bank 4 RevCore) (t : Tap) : checkTap cores t = none ↔
    t.wellFormed ∧ ∀ c, t.names c = true → (cores.get c).state = .shaped := by
  have named : (codeShaped cores t.source && codeShaped cores t.dest) = true ↔
      ∀ c, t.names c = true → (cores.get c).state = .shaped := by
    simp only [Bool.and_eq_true, codeShaped_iff, Tap.names, Bool.or_eq_true, beq_iff_eq, or_imp, forall_and]
  rw [← named]
  unfold checkTap Tap.wellFormed
  grind

/-- R109: a tap that passes goes on passing while the cores it names stay SHAPED. -/
theorem checkTap_mono {old new : Bank 4 RevCore} {t : Tap} (h : checkTap old t = none)
    (shaped : ∀ c, t.names c = true → (old.get c).state = .shaped → (new.get c).state = .shaped) :
    checkTap new t = none := by
  rw [checkTap_eq_none_iff] at h ⊢
  exact ⟨h.1, fun c names => shaped c names (h.2 c names)⟩

/-! ## One computation of a check (R108) -/

/-- R108: no tap fails when all pass. -/
theorem firstFailure_eq_none_iff (cores : Bank 4 RevCore) (n : Nat) (ts : List Tap) :
    firstFailure cores n ts = none ↔ ∀ t ∈ ts, checkTap cores t = none := by
  induction ts generalizing n with
  | nil => simp [firstFailure]
  | cons t ts ih =>
    rw [firstFailure, List.forall_mem_cons, ← ih (n + 1)]
    cases checkTap cores t <;> simp

/-- R108: the failure found is the first. -/
theorem firstFailure_of_first {cores : Bank 4 RevCore} {ts : List Tap} {j : Nat} {tap : Tap} {why : CheckReason}
    (n : Nat) (at_j : ts[j]? = some tap) (fails : checkTap cores tap = some why)
    (before : ∀ i < j, ∀ u, ts[i]? = some u → checkTap cores u = none) :
    firstFailure cores n ts = some (n + j, why) := by
  induction ts generalizing j n with
  | nil => cases at_j
  | cons t ts ih =>
    cases j with
    | zero =>
      cases at_j
      rw [firstFailure, fails]
      rfl
    | succ j =>
      have next := ih (n + 1) at_j fun i hi u hu => before (i + 1) (Nat.succ_lt_succ hi) u hu
      rw [firstFailure, before 0 (Nat.succ_pos j) t rfl, ← Nat.add_assoc, Nat.add_right_comm]
      exact next

section
variable {cores : Bank 4 RevCore} {sc : Scene} {n : Nat}

/-- R108: a computation of a check whose next 64 taps pass. -/
theorem examine_of_passes (h : ∀ t ∈ (sc.taps.drop n).take 64, checkTap cores t = none) :
    examine cores sc n = if sc.taps.length ≤ n + 64 then .passed else .goesOn (n + 64) := by
  unfold examine
  rw [(firstFailure_eq_none_iff cores n _).2 h]
  rfl

/-- R108: and one in whose next 64 taps some tap fails. -/
theorem examine_of_fails (h : ¬ ∀ t ∈ (sc.taps.drop n).take 64, checkTap cores t = none) :
    ∃ i r, examine cores sc n = .failed i r := by
  unfold examine
  cases found : firstFailure cores n ((sc.taps.drop n).take 64) with
  | none => exact absurd ((firstFailure_eq_none_iff ..).1 found) h
  | some failure => exact ⟨failure.1, failure.2, rfl⟩

/-- R108: a check that passes or goes on has found its next 64 taps to pass. -/
theorem examine_passes (h : ∀ i r, examine cores sc n ≠ .failed i r) :
    ∀ t ∈ (sc.taps.drop n).take 64, checkTap cores t = none := by
  by_contra fails
  obtain ⟨i, r, failed⟩ := examine_of_fails fails
  exact h i r failed

/-- R108: a check passes at the end of its taps. -/
theorem examine_passed (h : examine cores sc n = .passed) : ∀ t ∈ sc.taps.drop n, checkTap cores t = none := by
  have passes := examine_passes (cores := cores) (sc := sc) (n := n) (by rw [h]; nofun)
  rw [examine_of_passes passes] at h
  have short : sc.taps.length ≤ n + 64 := by
    by_contra long
    rw [if_neg long] at h
    cases h
  rwa [List.take_of_length_le (by rw [List.length_drop]; omega)] at passes

/-- R108: a check that goes on has passed 64 taps more. -/
theorem examine_goesOn {m : Nat} (h : examine cores sc n = .goesOn m) :
    m = n + 64 ∧ ∀ t ∈ (sc.taps.drop n).take 64, checkTap cores t = none := by
  have passes := examine_passes (cores := cores) (sc := sc) (n := n) (by rw [h]; nofun)
  rw [examine_of_passes passes] at h
  split at h
  · cases h
  · exact ⟨(CheckStep.goesOn.inj h).symm, passes⟩

end

/-- R98: the taps up to the next index and those from it are all taps. -/
theorem forall_mem_of_take_drop {P : Tap → Prop} {ts : List Tap} {n m : Nat} (first : ∀ t ∈ ts.take n, P t)
    (next : ∀ t ∈ (ts.drop n).take m, P t) : ∀ t ∈ ts.take (n + m), P t := by
  rw [List.take_add]
  exact fun t ht => (List.mem_append.1 ht).elim (first t) (next t)

end Sys2Proof.Machine
end

section
/-!
PROOFS. What a new shape of a core and a cue taken leave (R78, R79, R91, R117), beside what the laws need of them.
-/

namespace Sys2Proof.Machine

/-! ## A new shape (R78, R79) -/

/-- R111: the scenes once the running check is aborted. -/
theorem State.abortCheck_scenes (s : State) (i : Fin 16) : s.abortCheck.scenes.get i = { s.scenes.get i with
    state := if s.check.map CheckRun.scene = some i then .editing else (s.scenes.get i).state } := by
  obtain ⟨-, -, scenes⟩ := s.abortCheck_leaves
  rw [scenes]
  cases s.check with
  | none => rfl
  | some r =>
    dsimp only [Option.map_some]
    rw [Bank.get_modify]
    by_cases h : r.scene = i <;> simp [h]

/-- R79: a check whose scene references the core is aborted, and no other. -/
theorem State.abortCheckUsing_cases (c : Fin 4) (s : State) :
    (∃ r, s.check = some r ∧ (s.scenes.get r.scene).references c = true ∧ s.abortCheckUsing c = s.abortCheck) ∨
    ((∀ r, s.check = some r → (s.scenes.get r.scene).references c = false) ∧ s.abortCheckUsing c = s) := by
  unfold State.abortCheckUsing
  cases hc : s.check with
  | none => exact .inr ⟨nofun, rfl⟩
  | some r =>
    dsimp only
    split
    · exact .inl ⟨r, rfl, ‹_›, rfl⟩
    · rename_i unused
      refine .inr ⟨fun q hq => ?_, rfl⟩
      cases hq
      exact Bool.eq_false_iff.2 unused

@[simp] theorem State.shapeCore_cores (c : Fin 4) (lengths : Bank 8 Nat) (s : State) :
    (s.shapeCore c lengths).cores = s.cores.modify c (RevCore.reshape lengths) := by
  simp [State.shapeCore]

/-- R79: READY scenes that reference the core, and the scene of a check that does, become EDITING. -/
theorem State.shapeCore_scenes (c : Fin 4) (lengths : Bank 8 Nat) (s : State) (i : Fin 16) :
    (s.shapeCore c lengths).scenes.get i = { s.scenes.get i with
      state := if (s.scenes.get i).references c = true ∧
          ((s.scenes.get i).state = .ready ∨ s.check.map CheckRun.scene = some i) then .editing
        else (s.scenes.get i).state } := by
  simp only [State.shapeCore, demoteScenes, Bank.get_map]
  rcases s.abortCheckUsing_cases c with ⟨r, hr, uses, aborted⟩ | ⟨unused, kept⟩
  · rw [aborted, State.abortCheck_scenes, hr]
    by_cases same : r.scene = i
    · subst same
      simp [uses]
    · simp only [Option.map_some, Option.some.injEq, same, if_false, or_false, and_comm (b := (_ : SceneState) = _)]
      split <;> rfl
  · rw [kept]
    have other : (s.scenes.get i).references c = true → s.check.map CheckRun.scene ≠ some i := by
      intro uses runs
      obtain ⟨r, hr, rfl⟩ := Option.map_eq_some_iff.1 runs
      rw [unused r hr] at uses
      cases uses
    by_cases uses : (s.scenes.get i).references c = true
    · simp only [uses, other uses, or_false, and_true, true_and]
      split <;> rfl
    · simp [uses]

/-- R79: a check that goes on is of a scene that does not reference the core. -/
theorem State.shapeCore_check (c : Fin 4) (lengths : Bank 8 Nat) (s : State) {r : CheckRun}
    (h : (s.shapeCore c lengths).check = some r) :
    s.check = some r ∧ (s.scenes.get r.scene).references c = false := by
  have runs : (s.abortCheckUsing c).check = some r := h
  rcases s.abortCheckUsing_cases c with ⟨_, _, _, aborted⟩ | ⟨unused, kept⟩
  · rw [aborted, s.abortCheck_leaves.1] at runs
    cases runs
  · rw [kept] at runs
    exact ⟨runs, unused r runs⟩

/-! ## A cue taken (R91, R117, R118) -/

/-- R91: a cue arms every core from the header of its scene, which a released target does not touch. -/
theorem State.takeCue_cores (i : Fin 16) (x : FrameNo) (b : Bool) (s : State) :
    (s.takeCue i x b).cores = s.cores.mapIdx fun c core => core.arm (s.scenes.get i).header c := by
  unfold State.takeCue
  split
  · split
    · rfl
    · simp only [State.armCue, State.latch_cores, releaseTarget_header]
  · rfl

end Sys2Proof.Machine
end

section
/-!
PROOFS. Settles O13: every step keeps the taps of checked scenes, and those a running check has left behind, passing
(R77, R79, R99, R105, R108 to R111). A core stops being SHAPED at a CORE_SHAPE alone, which no locked scene that uses
the core admits, and which takes every other scene that uses it back to EDITING.
-/

namespace Sys2Proof.Machine

/-- R99: the states of a scene that has passed its check. -/
abbrev SceneState.Checked (st : SceneState) : Prop := st = .ready ∨ st.locked = true

/-- R99: a scene that is checked has taps that pass. -/
abbrev Scene.Passes (cores : Bank 4 RevCore) (sc : Scene) : Prop :=
  sc.state.Checked → ∀ t ∈ sc.taps, checkTap cores t = none

/-- R99: what is neither READY nor locked is not checked. -/
theorem SceneState.not_checked {st : SceneState} (h : st ∈ [SceneState.empty, .editing, .checking]) : ¬ st.Checked := by
  revert h
  cases st <;> simp [SceneState.locked]

/-- The law is kept where each scene that is checked was so with the same taps, where a check that runs ran on the same
taps, and where the cores that these name stay SHAPED. -/
theorem State.CheckedLaw.of_scenes {s t : State} (h : s.CheckedLaw)
    (scenes : ∀ i, (t.scenes.get i).state.Checked →
      (s.scenes.get i).state.Checked ∧ (t.scenes.get i).taps = (s.scenes.get i).taps)
    (check : ∀ r ∈ t.check, r ∈ s.check ∧ (t.scenes.get r.scene).taps = (s.scenes.get r.scene).taps)
    (shaped : ∀ i c, (t.scenes.get i).state.Checked ∨ t.check.map CheckRun.scene = some i →
      (t.scenes.get i).references c = true → (s.cores.get c).state = .shaped → (t.cores.get c).state = .shaped) :
    t.CheckedLaw := by
  obtain ⟨checked, passed⟩ := h
  have references : ∀ {i c tap}, tap ∈ (t.scenes.get i).taps → Tap.names c tap = true →
      (t.scenes.get i).references c = true := fun member names => List.any_eq_true.2 ⟨_, member, names⟩
  refine ⟨fun i hi tap member => ?_, fun r hr tap member => ?_⟩
  · obtain ⟨was, taps⟩ := scenes i hi
    exact checkTap_mono (checked i was tap (taps ▸ member)) fun c names =>
      shaped i c (.inl hi) (references member names)
  · obtain ⟨was, taps⟩ := check r hr
    refine checkTap_mono (passed r was tap (taps ▸ member)) fun c names => shaped r.scene c (.inr ?_) ?_
    · rw [hr]
      rfl
    · exact references (List.mem_of_mem_take member) names

/-- What leaves every tap list, makes no scene checked, starts no check, and keeps SHAPED cores SHAPED keeps the law. -/
theorem State.CheckedLaw.of_taps {s t : State} (h : s.CheckedLaw)
    (taps : ∀ i, (t.scenes.get i).taps = (s.scenes.get i).taps)
    (states : ∀ i, (t.scenes.get i).state.Checked → (s.scenes.get i).state.Checked)
    (check : ∀ r ∈ t.check, r ∈ s.check)
    (shaped : ∀ c, (s.cores.get c).state = .shaped → (t.cores.get c).state = .shaped) : t.CheckedLaw :=
  h.of_scenes (fun i hi => ⟨states i hi, taps i⟩) (fun r hr => ⟨check r hr, taps r.scene⟩) fun _ c _ _ => shaped c

/-- What leaves the scenes and the check and keeps SHAPED cores SHAPED keeps the law. -/
theorem State.CheckedLaw.of_cores {s t : State} (h : s.CheckedLaw) (scenes : t.scenes = s.scenes)
    (check : t.check = s.check) (shaped : ∀ c, (s.cores.get c).state = .shaped → (t.cores.get c).state = .shaped) :
    t.CheckedLaw :=
  h.of_taps (fun i => by rw [scenes]) (fun i => by rw [scenes]; exact id) (fun r => by rw [check]; exact id) shaped

/-! ## The cores (R80, R82) -/

/-- R80, R82: a computation takes no core out of SHAPED. -/
theorem RevCore.compute_shaped {c : RevCore} (h : c.state = .shaped) (w : Option Nat) (inj : Fin 8 → Int) :
    (c.compute w inj).state = .shaped := by
  simp [RevCore.compute, h, RevCore.runLines]

theorem RevCore.shapedEvent_shaped {c : RevCore} (h : c.state = .shaped) : c.shapedEvent.state = .shaped := by
  simp [RevCore.shapedEvent, h]

theorem State.CheckedLaw.coreShaped {s : State} (h : s.CheckedLaw) (c : Fin 4) :
    State.CheckedLaw { s with cores := s.cores.modify c RevCore.shapedEvent } :=
  h.of_cores rfl rfl <| Bank.forall_modify
    (P := fun d (core : RevCore) => (s.cores.get d).state = .shaped → core.state = .shaped) (fun _ => id)
    RevCore.shapedEvent_shaped

/-! ## The Check Unit (R107, R108, R110, R111) -/

/-- R110: a check that passes has found every tap of its scene to pass. -/
theorem State.CheckedLaw.endCheckPass {s : State} (h : s.CheckedLaw) {c : CheckRun} (hc : s.check = some c)
    (passes : examine s.cores (s.scenes.get c.scene) c.next = .passed) : (s.endCheckPass c).CheckedLaw := by
  obtain ⟨checked, passed⟩ := h
  have all : ∀ t ∈ (s.scenes.get c.scene).taps, checkTap s.cores t = none := by
    have first := passed c hc
    have rest := examine_passed passes
    rw [← List.take_append_drop c.next (s.scenes.get c.scene).taps]
    exact fun t ht => (List.mem_append.1 ht).elim (first t) (rest t)
  have idle : (s.endCheckPass c).check = none := by simp [State.endCheckPass]
  refine ⟨?_, fun r hr => by rw [idle] at hr; cases hr⟩
  simp only [State.endCheckPass, State.pushReply?_frame]
  exact Bank.forall_modify (P := fun _ => Scene.Passes s.cores) checked
    fun _ => all

/-- R110, R111: the running check ends, and its scene takes a state that is not checked. -/
theorem State.CheckedLaw.endCheck {s t : State} (h : s.CheckedLaw) {i : Fin 16} {f : Scene → Scene}
    (undone : ∀ sc, (f sc).state = .editing) (taps : ∀ sc, (f sc).taps = sc.taps)
    (scenes : t.scenes = s.scenes.modify i f) (check : t.check = none) (cores : t.cores = s.cores) : t.CheckedLaw := by
  refine h.of_taps (fun j => ?_) (fun j hj => ?_) (fun r hr => ?_) (fun c hc => by rwa [cores])
  · rw [scenes]
    exact Bank.get_modify_part Scene.taps _ i taps j
  · rw [scenes, Bank.get_modify] at hj
    split at hj
    · exact absurd hj (SceneState.not_checked (by simp [undone]))
    · exact hj
  · rw [check] at hr
    cases hr

theorem State.CheckedLaw.endCheckFail {s : State} (h : s.CheckedLaw) (c : CheckRun) (i : Nat) (r : CheckReason) :
    (s.endCheckFail c i r).CheckedLaw :=
  h.endCheck (i := c.scene) (f := fun sc => { sc with state := .editing, result := .failed i r }) (fun _ => rfl)
    (fun _ => rfl) (by simp [State.endCheckFail]) (by simp [State.endCheckFail]) (by simp)

theorem State.CheckedLaw.abortCheck {s : State} (h : s.CheckedLaw) : s.abortCheck.CheckedLaw := by
  obtain ⟨idle, -, scenes⟩ := s.abortCheck_leaves
  cases hc : s.check with
  | none =>
    rw [hc] at scenes
    exact h.of_cores scenes (idle.trans hc.symm) (by simp)
  | some c =>
    rw [hc] at scenes
    exact h.endCheck (f := fun sc => { sc with state := .editing }) (fun _ => rfl) (fun _ => rfl) scenes idle (by simp)

/-- R108: a running check goes on, passes or fails. -/
theorem State.CheckedLaw.advanceCheck {s : State} (h : s.CheckedLaw) : s.advanceCheck.CheckedLaw := by
  unfold State.advanceCheck
  split
  · exact h
  · rename_i c hc
    split
    · exact h.endCheckFail c _ _
    · exact h.endCheckPass hc ‹_›
    · rename_i m goesOn
      obtain ⟨rfl, passes⟩ := examine_goesOn goesOn
      obtain ⟨checked, passed⟩ := h
      refine ⟨checked, fun r hr => ?_⟩
      cases hr
      exact forall_mem_of_take_drop (passed c hc) passes

/-- R107: a check starts before the first tap. -/
theorem State.CheckedLaw.startCheck {s : State} (h : s.CheckedLaw) (i : Fin 16) (r : Option Ticket) :
    State.CheckedLaw { s with
      check := some ⟨i, 0, r⟩, scenes := s.scenes.modify i fun sc => { sc with state := .checking } } := by
  refine ⟨?_, fun r hr t ht => ?_⟩
  · exact Bank.forall_modify (P := fun _ => Scene.Passes s.cores) h.1
      fun checking => absurd checking (SceneState.not_checked (by simp))
  · cases hr
    cases ht

/-- R107: a scene without taps passes at once. -/
theorem State.CheckedLaw.passEmpty {s : State} (h : s.CheckedLaw) {i : Fin 16} (idle : s.check = none)
    (empty : (s.scenes.get i).tapCount = 0) : State.CheckedLaw { s with
      scenes := s.scenes.modify i fun sc => { sc with state := .ready, result := .passed } } := by
  refine ⟨?_, fun r hr => ?_⟩
  · refine Bank.forall_modify (P := fun _ => Scene.Passes s.cores) h.1
      fun _ t ht => ?_
    rw [List.eq_nil_of_length_eq_zero empty] at ht
    cases ht
  · have runs : s.check = some r := hr
    rw [idle] at runs
    cases runs

/-! ## Edits of a scene that is not locked (R102 to R105) -/

theorem State.CheckedLaw.abortCheckOf {s : State} (h : s.CheckedLaw) (i : Fin 16) : (s.abortCheckOf i).CheckedLaw := by
  unfold State.abortCheckOf
  split
  · exact h
  · split
    · exact h.abortCheck
    · exact h

/-- R105, R111: an edit aborts a check of its scene first, and leaves a scene that is not checked. -/
theorem State.CheckedLaw.edit {s : State} (h : s.CheckedLaw) {i : Fin 16} {f : Scene → Scene}
    (undone : ∀ sc, ¬ (f sc).state.Checked) (free : (s.scenes.get i).state.locked = false) :
    State.CheckedLaw { s.abortCheckOf i with scenes := (s.abortCheckOf i).scenes.modify i f } := by
  obtain ⟨unchecked, -⟩ := State.abortCheckOf_free free
  refine (h.abortCheckOf i).of_scenes (fun j hj => ?_) (fun r hr => ⟨hr, ?_⟩) fun _ _ _ _ => id
  · have other : j ≠ i := by
      rintro rfl
      rw [Bank.get_modify_self] at hj
      exact undone _ hj
    rw [Bank.get_modify_of_ne _ other] at hj ⊢
    exact ⟨hj, rfl⟩
  · have runs : (s.abortCheckOf i).check = some r := hr
    have other : r.scene ≠ i := fun same => unchecked (by rw [runs, ← same]; rfl)
    exact congrArg Scene.taps (Bank.get_modify_of_ne _ other _)

/-! ## A new shape (R77, R79) -/

/-- R79: a scene that rests on the core after its new shape is neither READY nor locked. -/
theorem State.shapeCore_unchecked {s : State} {c : Fin 4} (free : s.coreInUse c = false) (lengths : Bank 8 Nat)
    (i : Fin 16) (uses : (s.scenes.get i).references c = true) :
    ¬ ((s.shapeCore c lengths).scenes.get i).state.Checked := by
  have unlocked : (s.scenes.get i).state.locked = false := by
    simpa [uses] using (Bank.any_false_iff _ _).1 free i
  rw [State.shapeCore_scenes]
  dsimp only
  split
  · exact SceneState.not_checked (by simp)
  · rename_i kept
    rintro (ready | locked)
    · exact kept ⟨uses, .inl ready⟩
    · rw [unlocked] at locked
      cases locked

/-- R77, R79: a core takes a new shape that no locked scene references. -/
theorem State.CheckedLaw.shapeCore {s : State} (h : s.CheckedLaw) {c : Fin 4} (free : s.coreInUse c = false)
    (lengths : Bank 8 Nat) : (s.shapeCore c lengths).CheckedLaw := by
  have taps : ∀ i, ((s.shapeCore c lengths).scenes.get i).taps = (s.scenes.get i).taps := fun i => by
    rw [State.shapeCore_scenes]
  have unchecked := State.shapeCore_unchecked free lengths
  have unused : ∀ r ∈ (s.shapeCore c lengths).check, r ∈ s.check ∧ (s.scenes.get r.scene).references c = false :=
    fun r hr => State.shapeCore_check c lengths s hr
  have others : ∀ i d, (s.scenes.get i).references c = false → (s.scenes.get i).references d = true →
      (s.cores.get d).state = .shaped → ((s.shapeCore c lengths).cores.get d).state = .shaped := by
    intro i d apart uses shaped
    have other : d ≠ c := by
      rintro rfl
      rw [apart] at uses
      cases uses
    rwa [State.shapeCore_cores, Bank.get_modify_of_ne _ other]
  refine h.of_scenes (fun i hi => ⟨?_, taps i⟩) (fun r hr => ⟨(unused r hr).1, taps r.scene⟩) fun i d rests uses => ?_
  · rw [State.shapeCore_scenes] at hi
    dsimp only at hi
    split at hi
    · exact absurd hi (SceneState.not_checked (by simp))
    · exact hi
  · rw [Scene.references, taps, ← Scene.references] at uses
    refine others i d ?_ uses
    rcases rests with checked | runs
    · exact Bool.eq_false_iff.2 fun used => unchecked i used checked
    · obtain ⟨r, hr, rfl⟩ := Option.map_eq_some_iff.1 runs
      exact (unused r hr).2

/-! ## Fire, end of a crossfade and cues (R100, R117, R120, R122, R125) -/

/-- Where the states of the scenes alone move, none becomes checked, and no core leaves its state, the law is kept. -/
theorem State.CheckedLaw.of_states {s t : State} (h : s.CheckedLaw) {st : Fin 16 → SceneState}
    (scenes : ∀ i, t.scenes.get i = { s.scenes.get i with state := st i })
    (states : ∀ i, (st i).Checked → (s.scenes.get i).state.Checked) (check : t.check = s.check)
    (cores : ∀ c, (t.cores.get c).state = (s.cores.get c).state) : t.CheckedLaw := by
  refine h.of_taps (fun i => by rw [scenes]) (fun i hi => states i ?_) (fun r hr => check ▸ hr)
    fun c hc => (cores c).trans hc
  rwa [scenes] at hi

/-- R99, R122: the target that fires is CUED, and so has passed its check. -/
theorem State.CheckedLaw.fire {s : State} (h : s.CheckedLaw) (law : s.SceneLaw) {k : FrameNo}
    (due : s.fires k = true) : (s.fire k).CheckedLaw := by
  obtain ⟨t, target, cued, -, -⟩ := law.armed_target ((s.fires_iff k).1 due).1
  rw [State.fire_of_target target, State.fireTarget_eq]
  refine h.of_states (fireScenes_get t s.scenes) (fun i hi => ?_) rfl
    fun c => (congrArg RevCore.state (Bank.get_map RevCore.fire s.cores c) :)
  split at hi
  · rename_i same
    rw [same, cued]
    exact .inr rfl
  · split at hi
    · rename_i active
      rw [active]
      exact .inr rfl
    · exact hi

theorem State.CheckedLaw.endFade {s : State} (h : s.CheckedLaw) : s.endFade.CheckedLaw := by
  refine h.of_states (endFadeScenes_get s.cue.target s.scenes) (fun i hi => ?_) rfl
    fun c => (congrArg RevCore.state (Bank.get_map RevCore.endFade s.cores c) :)
  split at hi
  · rename_i outgoing
    rw [outgoing]
    exact .inr rfl
  · exact hi

/-- R117: a cue is taken for a scene that is checked. -/
theorem State.CheckedLaw.takeCue {s : State} (h : s.CheckedLaw) (law : s.SceneLaw) {i : Fin 16} (x : FrameNo) (b : Bool)
    (hi : (s.scenes.get i).state ∈ [SceneState.ready, .cued, .outgoing]) : (s.takeCue i x b).CheckedLaw := by
  have target : (s.scenes.get i).state.Checked := by
    revert hi
    cases (s.scenes.get i).state <;> simp [SceneState.Checked, SceneState.locked]
  refine h.of_states (law.takeCue_scenes hi x b) (fun j hj => ?_) (by simp) fun c => ?_
  · split at hj
    · rename_i same
      exact same ▸ target
    · split at hj
      · rename_i cued
        rw [cued]
        exact .inr rfl
      · exact hj
  · rw [State.takeCue_cores, Bank.get_mapIdx]
    rfl

theorem State.CheckedLaw.cancelCue {s : State} (h : s.CheckedLaw) : s.cancelCue.CheckedLaw := by
  unfold State.cancelCue
  split
  · refine h.of_states (releaseTarget_get s.cue.target s.scenes) (fun i hi => ?_) rfl
      fun c => (congrArg RevCore.state (Bank.get_map RevCore.disarm s.cores c) :)
    split at hi
    · rename_i cued
      rw [cued.2]
      exact .inr rfl
    · exact hi
  · exact h

/-! ## A computation -/

theorem State.CheckedLaw.testCue {s : State} (h : s.CheckedLaw) (law : s.SceneLaw) (k : FrameNo) :
    (s.testCue k).CheckedLaw := by
  cases due : s.fires k with
  | true =>
    rw [State.testCue_of_fires due]
    exact h.fire law due
  | false =>
    rw [State.testCue_of_waits due]
    exact h

theorem State.CheckedLaw.tickFade {s : State} (h : s.CheckedLaw) (fired : Bool) : (s.tickFade fired).CheckedLaw := by
  have raised : State.CheckedLaw { s with cue := s.cue.raise } := h
  unfold State.tickFade
  split
  · dsimp only
    split
    · exact raised.endFade
    · exact raised
  · exact h

theorem State.CheckedLaw.rampTick {s : State} (h : s.CheckedLaw) (fired : Bool) : (s.rampTick fired).CheckedLaw := by
  have gated : State.CheckedLaw (State.tickGates (State.formHold s.tickLevel)) :=
    h.of_cores (by simp) (by simp) (by simp)
  exact gated.tickFade fired

theorem State.CheckedLaw.beginComputation {s : State} (h : s.CheckedLaw) (law : s.SceneLaw) (k : FrameNo) :
    (s.beginComputation k).CheckedLaw := by
  have tested : (s.sampleHold.testCue k).CheckedLaw := State.CheckedLaw.testCue (s := s.sampleHold) h law k
  by_cases ht : k.toNat % 48 = 0
  · rw [s.beginComputation_tick k ht]
    exact tested.rampTick _
  · rw [s.beginComputation_between k ht]
    exact tested

/-- R80, R108: the Check Unit goes on, and then the cores run. -/
theorem State.CheckedLaw.runSamples {s : State} (h : s.CheckedLaw) (k : FrameNo) : (s.runSamples k).CheckedLaw := by
  have counted : State.CheckedLaw ((s.runPickups k).countFeedClips ((s.runPickups k).feedClips k)) :=
    h.of_cores (by simp) (by simp) (by simp)
  refine counted.advanceCheck.of_cores (by simp [State.runSamples]) (by simp [State.runSamples]) fun c hc => ?_
  simp only [State.runSamples, State.recordPeaks_cores, State.runCores, State.latchIf_frame, Bank.get_mapIdx]
  exact RevCore.compute_shaped hc _ _

theorem State.CheckedLaw.compute {s : State} (h : s.CheckedLaw) (law : s.SceneLaw) (k : FrameNo) :
    (s.compute k).CheckedLaw := by
  have samples := (h.beginComputation law k).runSamples k
  by_cases ht : k.toNat % 48 = 0
  · rw [s.compute_tick k ht]
    exact samples.of_cores (by simp) (by simp) (by simp)
  · rw [s.compute_between k ht]
    exact samples

/-! ## Every step -/

/-- R99, R123: the scene law says that a cue's target is checked, and so goes with the checked law. -/
def State.SceneAndCheckedLaw (s : State) : Prop := s.SceneLaw ∧ s.CheckedLaw

/-- R77, R99, R105, R108: both laws are kept by every operation that moves what they read. -/
theorem keptByStores_checkedLaw : KeptByStores State.SceneAndCheckedLaw where
  reads hs hv := by
    refine ⟨keptByStores_sceneLaw.reads hs.1 hv, ?_⟩
    simp only [State.storeView, Prod.mk.injEq] at hv
    obtain ⟨-, -, cores, scenes, check, -⟩ := hv
    exact hs.2.of_cores scenes check (by rw [cores]; exact fun _ => id)
  powerOn lead a := ⟨State.powerOn_sceneLaw lead a, State.powerOn_checkedLaw lead a⟩
  compute k hs := ⟨hs.1.compute k, hs.2.compute hs.1 k⟩
  clearMemories hs := ⟨keptByStores_sceneLaw.clearMemories hs.1,
    hs.2.of_cores (by simp) (by simp) fun c hc => by rwa [State.clearMemories_cores, Bank.get_map]⟩
  fillBuffer f hs := ⟨keptByStores_sceneLaw.fillBuffer f hs.1, hs.2.of_cores (by simp) (by simp) (by simp)⟩
  abortCheck hs := ⟨hs.1.abortCheck, hs.2.abortCheck⟩
  coreShaped c hs := ⟨keptByStores_sceneLaw.coreShaped c hs.1, hs.2.coreShaped c⟩
  checkPass hc passes hs := ⟨hs.1.endCheckPass hc, hs.2.endCheckPass hc passes⟩
  checkFail hc _ hs := ⟨hs.1.endCheckFail hc _ _, hs.2.endCheckFail _ _ _⟩
  fire due hs := ⟨hs.1.fire due, hs.2.fire hs.1 due⟩
  endFade running hs := ⟨hs.1.endFade running, hs.2.endFade⟩
  shapeCore c lengths free _ hs := ⟨hs.1.shapeCore c _, hs.2.shapeCore free _⟩
  setHeader p free hs := ⟨keptByStores_sceneLaw.setHeader p free hs.1,
    hs.2.edit (f := fun sc => { sc with header := headerOf p, state := .editing })
      (fun _ => SceneState.not_checked (by simp)) free⟩
  putTaps p count free near hs := ⟨keptByStores_sceneLaw.putTaps p count free near hs.1,
    hs.2.edit (f := fun sc => { sc with taps := writeTaps sc.taps _ (tapRecords p count), state := .editing })
      (fun _ => SceneState.not_checked (by simp)) free⟩
  clearScene free hs := ⟨keptByStores_sceneLaw.clearScene free hs.1,
    hs.2.edit (f := fun _ => Scene.reset) (fun _ => SceneState.not_checked (by simp [Scene.reset])) free⟩
  passEmpty free filled idle empty hs := ⟨keptByStores_sceneLaw.passEmpty free filled idle empty hs.1,
    hs.2.passEmpty idle empty⟩
  startCheck r free _ idle hs := ⟨hs.1.startCheck r free idle, hs.2.startCheck _ r⟩
  takeCue x b hi hs := ⟨hs.1.takeCue x b hi, hs.2.takeCue hs.1 x b hi⟩
  cancelCue hs := ⟨hs.1.cancelCue, hs.2.cancelCue⟩

/-- Settles O13: the two laws together are kept by the operations of `KeptByStores`, and so by every step. -/
theorem stepKeepsCheckedScenes : Obligations.StepKeepsCheckedScenes := fun _ _ scene checked h =>
  (keptByStores_checkedLaw.step ⟨scene, checked⟩ h).2

end Sys2Proof.Machine
end

section
/-!
PROOFS. Settles O22: the absorption of a line falls as its attenuation per pass rises, from its value at u = 1 on (R87
to R90).
-/

namespace Sys2Proof.Machine

/-- R89: the fine table falls. -/
theorem fine_succ_le : ∀ j < 63, fine (j + 1) ≤ fine j := by decide

/-- R89: the fine table ends above the next entry of the coarse one. -/
theorem coarse_fine_carry : ∀ i < 63, coarse (i + 1) * fine 0 ≤ coarse i * fine 63 := by decide

/-- R89: the absorption of the part `r` of an attenuation that is below a halving. -/
def partAbsorption (r : Nat) : Nat := (coarse (r / 64) * fine (r % 64) + 4194304) / 8388608

theorem absorptionOfLoss_eq (u : Nat) :
    absorptionOfLoss u = shiftRounded (partAbsorption (u % 4096)) (u / 4096) := rfl

/-- R89: within a halving the absorption falls, by the fine table or by a carry into the coarse one. -/
theorem partAbsorption_succ_le {r : Nat} (h : r < 4095) : partAbsorption (r + 1) ≤ partAbsorption r := by
  have product : coarse ((r + 1) / 64) * fine ((r + 1) % 64) ≤ coarse (r / 64) * fine (r % 64) := by
    by_cases carry : r % 64 = 63
    · have next : (r + 1) / 64 = r / 64 + 1 ∧ (r + 1) % 64 = 0 := by omega
      rw [next.1, next.2, carry]
      exact coarse_fine_carry _ (by omega)
    · have next : (r + 1) / 64 = r / 64 ∧ (r + 1) % 64 = r % 64 + 1 := by omega
      rw [next.1, next.2]
      exact Nat.mul_le_mul_left _ (fine_succ_le _ (by omega))
  exact Nat.div_le_div_right (Nat.add_le_add_right product _)

/-- R90: one step of attenuation never raises the absorption: a whole halving is at most twice the last part. -/
theorem absorptionOfLoss_succ_le (u : Nat) : absorptionOfLoss (u + 1) ≤ absorptionOfLoss u := by
  rw [absorptionOfLoss_eq, absorptionOfLoss_eq]
  by_cases last : u % 4096 = 4095
  · have next : (u + 1) % 4096 = 0 ∧ (u + 1) / 4096 = u / 4096 + 1 := by omega
    rw [next.1, next.2, last, ← shiftRounded_succ_double (partAbsorption 4095)]
    exact shiftRounded_mono (by decide : partAbsorption 0 ≤ 2 * partAbsorption 4095) _
  · have next : (u + 1) % 4096 = u % 4096 + 1 ∧ (u + 1) / 4096 = u / 4096 := by omega
    rw [next.1, next.2]
    exact shiftRounded_mono (partAbsorption_succ_le (by omega)) _

theorem absorptionOfLoss_antitone : Antitone absorptionOfLoss := antitone_nat_of_succ_le absorptionOfLoss_succ_le

/-- Settles O22: the bound is `absorption_le`, and the figures are the rule's own. -/
theorem absorptionStaysBelowUnity : Obligations.AbsorptionStaysBelowUnity :=
  ⟨absorption_le, by decide, fun _ _ h => absorptionOfLoss_antitone h, by decide, by decide⟩

end Sys2Proof.Machine
end

section
/-!
PROOFS. Settles O46: the row CROSSFADE_END (R92, R100, R125).
-/

namespace Sys2Proof.Machine

/-- R125: a scene that is not OUTGOING stays through the end of a crossfade. -/
theorem endFadeScenes_get_of_ne {armed : Option (Fin 16)} {scenes : Bank 16 Scene} {i : Fin 16}
    (h : (scenes.get i).state ≠ .outgoing) : (endFadeScenes armed scenes).get i = scenes.get i := by
  rw [endFadeScenes_get, if_neg h]

/-- Settles O46: the row is `State.endFade`. -/
theorem crossfadeEndReleasesScene : Obligations.CrossfadeEndReleasesScene := by
  intro s computes running full
  refine ⟨s.endFade, exec_crossfadeEnd computes running full, rfl, fun i outgoing => ?_,
    fun i other => endFadeScenes_get_of_ne other, fun c => Bank.get_map .., rfl, rfl⟩
  rw [State.endFade_scenes, endFadeScenes_get, if_pos outgoing]

end Sys2Proof.Machine
end

section
/-!
PROOFS. Settles O54: CORE_SHAPE (R76 to R79, R111).
-/

namespace Sys2Proof.Machine

/-! ## The judgement (R77) -/

/-- R77: a line length as a core takes it. -/
theorem clampLengths_get (lengths : Fin 8 → Nat) (l : Fin 8) :
    (clampLengths lengths).get l = max 64 (min 4095 (lengths l)) :=
  Bank.get_ofFn ..

/-- R77: the sum of the lengths a core takes. -/
theorem clampLengths_sum (lengths : Fin 8 → Nat) : (clampLengths lengths).items.sum =
    ((List.finRange 8).map fun l => max 64 (min 4095 (lengths l))).sum :=
  congrArg List.sum (List.ofFn_eq_map (f := fun l => clamp 64 4095 (lengths l)))

/-- R77: a core is in use while a locked scene references it. -/
theorem State.coreInUse_iff (c : Fin 4) (s : State) : s.coreInUse c = true ↔
    ∃ i, (s.scenes.get i).state.locked = true ∧ (s.scenes.get i).references c = true := by
  simp [State.coreInUse, Bank.any_iff]

theorem judgeCoreShape_badIndex {p : List Byte} {s : State} (h : 3 < at8 p 0) :
    judgeCoreShape p s = .refused .badIndex := by
  unfold judgeCoreShape
  rw [index?_of_ge (by omega)]

/-- R77: CORE_SHAPE's tests in their order. -/
theorem judgeCoreShape_eq {p : List Byte} {s : State} {c : Fin 4} (h : at8 p 0 = c.val) : judgeCoreShape p s =
    if s.coreInUse c then .refused .coreInUse
    else if 16384 < (clampLengths fun l => at16 p (1 + 2 * l.val)).items.sum then .refused .badShape
    else applied (s.shapeCore c (clampLengths fun l => at16 p (1 + 2 * l.val))) := by
  unfold judgeCoreShape
  rw [index?_val h]

/-! ## What a new shape moves (R78, R79) -/

/-- R111: an abort moves the check, the scenes and the READY replies alone. -/
theorem State.abortCheck_eq (s : State) : s.abortCheck = { s with
    check := s.abortCheck.check, scenes := s.abortCheck.scenes
    lane := { s.lane with ready := s.abortCheck.lane.ready } } := by
  unfold State.abortCheck
  split
  · rfl
  · rename_i r _
    obtain ⟨scene, next, replyTo⟩ := r
    cases replyTo <;> rfl

/-- R78, R79: so does a new shape, beside the cores. -/
theorem State.shapeCore_eq (c : Fin 4) (lengths : Bank 8 Nat) (s : State) : s.shapeCore c lengths = { s with
    cores := (s.shapeCore c lengths).cores, scenes := (s.shapeCore c lengths).scenes
    check := (s.shapeCore c lengths).check
    lane := { s.lane with ready := (s.shapeCore c lengths).lane.ready } } := by
  unfold State.shapeCore
  rcases s.abortCheckUsing_cases c with ⟨_, _, _, aborted⟩ | ⟨_, kept⟩
  · rw [aborted, State.abortCheck_eq]
  · rw [kept]

/-- R79: a check of a scene that references the core ends with its reply. -/
theorem State.shapeCore_aborts {c : Fin 4} {s : State} {r : CheckRun} (runs : s.check = some r)
    (uses : (s.scenes.get r.scene).references c = true) (lengths : Bank 8 Nat) :
    (s.shapeCore c lengths).check = none ∧ (s.shapeCore c lengths).lane.ready = s.lane.ready ++
      r.replyTo.toList.map fun k => k.reply .aborted [octet r.scene.val] := by
  have aborted : s.abortCheckUsing c = s.abortCheck := by
    simp [State.abortCheckUsing, runs, uses]
  obtain ⟨idle, lane, -⟩ := s.abortCheck_leaves
  simp only [State.shapeCore, aborted]
  exact ⟨idle, by rw [lane, State.abortReplies, runs]⟩

/-- R79: any other check goes on. -/
theorem State.shapeCore_goesOn {c : Fin 4} {s : State}
    (unused : ∀ r, s.check = some r → (s.scenes.get r.scene).references c = false) (lengths : Bank 8 Nat) :
    (s.shapeCore c lengths).check = s.check ∧ (s.shapeCore c lengths).lane.ready = s.lane.ready := by
  have kept : s.abortCheckUsing c = s := by
    rcases s.abortCheckUsing_cases c with ⟨r, runs, uses, -⟩ | ⟨-, kept⟩
    · rw [unused r runs] at uses
      cases uses
    · exact kept
  simp only [State.shapeCore, kept]
  exact ⟨trivial, trivial⟩

/-- Settles O54: the tests in their order, then the new shape. -/
theorem coreShapeStartsClear : Obligations.CoreShapeStartsClear := by
  intro s e rest h hq
  have settled := h.posted hq false judgeCoreShape
  refine ⟨fun high => congrArg _ (settled.trans ?_), fun c hc => ?_⟩
  · rw [judgeCoreShape_badIndex high, State.settle_refusal]
  intro length sum locked
  let p := s.popQueue rest
  let lengths := clampLengths fun l => at16 e.params (1 + 2 * l.val)
  have judged : judgeCoreShape e.params p = if p.coreInUse c then .refused .coreInUse
      else if 16384 < lengths.items.sum then .refused .badShape else applied (p.shapeCore c lengths) :=
    judgeCoreShape_eq hc
  have inUse : p.coreInUse c = true ↔ locked := p.coreInUse_iff c
  have total : lengths.items.sum = sum := clampLengths_sum _
  rw [total] at judged
  refine ⟨fun used => congrArg _ (settled.trans ?_), fun free large => congrArg _ (settled.trans ?_),
    fun free fits => ?_⟩
  · rw [judged, if_pos (inUse.2 used), State.settle_refusal]
  · rw [judged, if_neg (mt inUse.1 free), if_pos large, State.settle_refusal]
  · rw [if_neg (mt inUse.1 free), if_neg (Nat.not_lt.2 fits)] at judged
    have own : (p.shapeCore c lengths).cores.get c = (s.cores.get c).reshape lengths := by
      rw [State.shapeCore_cores]
      exact Bank.get_modify_self ..
    refine ⟨p.shapeCore c lengths, congrArg _ (settled.trans ?_), fun d hd => ?_, ?_, fun l => ?_,
      State.shapeCore_scenes c lengths p, fun r runs uses => p.shapeCore_aborts runs uses lengths,
      fun r runs unused => p.shapeCore_goesOn ?_ lengths, fun idle => ?_, p.shapeCore_eq c lengths⟩
    · rw [judged, State.settle_applied]
    · rw [State.shapeCore_cores]
      exact Bank.get_modify_of_ne _ hd _
    · rw [own]
      rfl
    · rw [own]
      exact ⟨clampLengths_get _ l, Bank.get_fill .., Bank.get_fill ..⟩
    · intro q same
      cases runs.symm.trans same
      exact unused
    · have kept := State.shapeCore_goesOn (c := c) (s := p)
        (fun r runs => absurd (idle.symm.trans runs) nofun) lengths
      exact ⟨kept.1.trans idle, kept.2⟩

end Sys2Proof.Machine
end

section
/-!
PROOFS. Settles O58: CUE and CUE_CANCEL (R91, R100, R115 to R120).
-/

namespace Sys2Proof.Machine

/-! ## The judgement (R116) -/

theorem judgeCue_badIndex {p : List Byte} {s : State} (h : 15 < at8 p 0) : judgeCue p s = .refused .badIndex := by
  unfold judgeCue
  rw [index?_of_ge (by omega)]

section
variable {p : List Byte} {s : State} {i : Fin 16} (h : at8 p 0 = i.val)
include h

theorem judgeCue_notReady (hi : (s.scenes.get i).state ∈ [SceneState.empty, .editing, .checking]) :
    judgeCue p s = .refused .notReady := by
  simp only [List.mem_cons, List.not_mem_nil, or_false] at hi
  unfold judgeCue
  rw [index?_val h]
  rcases hi with hi | hi | hi <;> simp only [hi]

theorem judgeCue_active (hi : (s.scenes.get i).state = .active) : judgeCue p s = applied s := by
  unfold judgeCue
  rw [index?_val h]
  simp only [hi]

/-- R117 to R119: a cue for a scene that is READY, CUED or OUTGOING is taken. -/
theorem judgeCue_takes (hi : (s.scenes.get i).state ∈ [SceneState.ready, .cued, .outgoing]) :
    judgeCue p s = applied (s.takeCue i (at32 p 1) ((p.getD 5 0).getLsbD 0)) := by
  simp only [List.mem_cons, List.not_mem_nil, or_false] at hi
  unfold judgeCue
  rw [index?_val h]
  rcases hi with hi | hi | hi <;> simp only [hi]

end

/-- R185: the immediate mark is bit 0 of its octet. -/
theorem at8_odd (p : List Byte) (i : Nat) : (p.getD i 0).getLsbD 0 = (at8 p i % 2 == 1) := by
  simp [at8, BitVec.getLsbD, beq_eq_decide]

/-! ## What a cue taken leaves (R91, R117, R118) -/

/-- R117, R118: a cue taken moves the scenes, the Cue Unit, the armed targets and CUE_REPLACED alone. -/
theorem State.takeCue_eq (i : Fin 16) (x : FrameNo) (b : Bool) (s : State) : s.takeCue i x b = { s with
    scenes := (s.takeCue i x b).scenes, cue := (s.takeCue i x b).cue, cores := (s.takeCue i x b).cores
    events := { s.events with latch := (s.takeCue i x b).events.latch } } := by
  unfold State.takeCue
  split
  · split <;> rfl
  · rfl

/-- R118: a cue that replaces an armed one latches CUE_REPLACED. -/
theorem State.takeCue_latch (i : Fin 16) (x : FrameNo) (b : Bool) (s : State) : (s.takeCue i x b).events.latch =
    if s.cue.state.hasCue then s.events.latch ||| Event.word .cueReplaced else s.events.latch := by
  unfold State.takeCue
  split
  · split <;> rfl
  · rfl

/-- R91: what a core arms. -/
theorem RevCore.arm_armed (d : Header) (i : Fin 4) (c : RevCore) : c.arm d i = { c with armed := (c.arm d i).armed } ∧
    ∃ g, (c.arm d i).armed = some g ∧ g.damping = d.damping.get i ∧
      ∀ l, g.absorption.get l = absorption (c.lengths.get l) (d.decay.get i) :=
  ⟨rfl, _, rfl, rfl, fun _ => Bank.get_map ..⟩

/-! ## What a cancel leaves (R91, R120) -/

theorem State.cancelCue_idle {s : State} (h : s.cue.state.hasCue = false) : s.cancelCue = s := by
  simp [State.cancelCue, h]

theorem State.cancelCue_armed {s : State} (h : s.cue.state.hasCue = true) : s.cancelCue = { s with
    scenes := releaseTarget s.cue.target s.scenes, cue := s.cue.cancel, cores := s.cores.map RevCore.disarm } := by
  simp [State.cancelCue, h]

/-- R99, R120: the one CUED scene is the target released. -/
theorem State.SceneLaw.releaseTarget_scenes {s : State} (h : s.SceneLaw) (j : Fin 16) :
    (releaseTarget s.cue.target s.scenes).get j =
      if (s.scenes.get j).state = .cued then { s.scenes.get j with state := .ready } else s.scenes.get j := by
  obtain ⟨-, -, -, -, -, cued, -⟩ := h
  have released : s.cue.target = some j ∧ (s.scenes.get j).state = .cued ↔ (s.scenes.get j).state = .cued :=
    ⟨And.right, fun was => ⟨cued j was, was⟩⟩
  rw [releaseTarget_get]
  simp only [released]
  split <;> rfl

/-- Settles O58, command by command. -/
theorem cueArmsReplacesAndCancels : Obligations.CueArmsReplacesAndCancels := by
  refine ⟨fun s e rest h hq => ?_, fun s e rest h hq => ?_⟩
  · have settled := h.posted hq false judgeCue
    refine ⟨fun high => congrArg _ (settled.trans ?_), fun i hi => ?_⟩
    · rw [judgeCue_badIndex high, State.settle_refusal]
    intro st
    let p := s.popQueue rest
    refine ⟨fun early => congrArg _ (settled.trans ?_), fun active => congrArg _ (settled.trans ?_),
      fun law ready => ?_⟩
    · rw [judgeCue_notReady (s := p) hi (by simpa [p, st] using early), State.settle_refusal]
    · rw [judgeCue_active (s := p) hi active, State.settle_applied]
    · have target : (p.scenes.get i).state ∈ [SceneState.ready, .cued, .outgoing] := by simpa [p, st] using ready
      let immediate := (e.params.getD 5 0).getLsbD 0
      have scenes := State.SceneLaw.takeCue_scenes (s := p) law target (at32 e.params 1) immediate
      refine ⟨p.takeCue i (at32 e.params 1) immediate, congrArg _ (settled.trans ?_), ?_, ?_, fun j hj => ?_,
        fun c => ?_, State.takeCue_latch .., State.takeCue_eq ..⟩
      · rw [judgeCue_takes (s := p) hi target, State.settle_applied]
      · rw [State.takeCue_cue, ← at8_odd]
        rfl
      · rw [scenes, if_pos rfl]
        rfl
      · rw [scenes, if_neg hj]
        show _ = if (p.scenes.get j).state = .cued then _ else _
        split <;> rfl
      · rw [State.takeCue_cores, Bank.get_mapIdx]
        exact RevCore.arm_armed ..
  · have settled := h.posted hq false fun _ s => applied s.cancelCue
    rw [State.settle_applied] at settled
    let p := s.popQueue rest
    refine ⟨fun idle => congrArg _ (settled.trans ?_), fun law armed => ?_⟩
    · have disarmed : p.cue.state.hasCue = false := by
        show s.cue.state.hasCue = false
        rcases idle with idle | fading <;> simp [*, CueState.hasCue]
      exact State.cancelCue_idle disarmed
    · have cued : p.cue.state.hasCue = true := by
        show s.cue.state.hasCue = true
        rcases armed with armed | armed <;> simp [armed, CueState.hasCue]
      refine ⟨p.cancelCue, congrArg _ settled, ?_⟩
      rw [State.cancelCue_armed cued]
      refine ⟨?_, State.SceneLaw.releaseTarget_scenes (s := p) law, fun c => Bank.get_map .., rfl⟩
      rcases armed with armed | armed <;> simp [p, CueUnit.cancel, armed, CueState.fades]

end Sys2Proof.Machine
end

section
/-!
PROOFS. Settles O44: a running check in a computation and at its end (R80, R108 to R110).
-/

namespace Sys2Proof.Machine

/-! ## The end of a check (R110) -/

/-- R163: a reply that may be missing moves the READY replies alone. -/
theorem State.pushReply?_eq (t : Option Ticket) (st : Status) (data : List Byte) (s : State) :
    s.pushReply? t st data =
      { s with lane := { s.lane with ready := s.lane.ready ++ t.toList.map fun k => k.reply st data } } := by
  cases t with
  | none => simp [State.pushReply?]
  | some t => rfl

theorem State.endCheckPass_eq (c : CheckRun) (s : State) : s.endCheckPass c = { s with
    check := none
    scenes := s.scenes.modify c.scene fun sc => { sc with state := .ready, result := .passed }
    lane := { s.lane with ready := s.lane.ready ++ (c.replyTo.toList.map fun k =>
      k.reply .checkPassed (octet c.scene.val :: octets2 (s.scenes.get c.scene).taps.length)) } } :=
  State.pushReply?_eq ..

theorem State.endCheckFail_eq (c : CheckRun) (i : Nat) (r : CheckReason) (s : State) : s.endCheckFail c i r = { s with
    check := none
    scenes := s.scenes.modify c.scene fun sc => { sc with state := .editing, result := .failed i r }
    lane := { s.lane with ready := s.lane.ready ++ (c.replyTo.toList.map fun k =>
      k.reply .checkFailed (octet c.scene.val :: octets2 i ++ [octet (reasonCode r)])) } } :=
  State.pushReply?_eq ..

/-! ## One computation of a check (R108) -/

section
variable {s : State} {r : CheckRun} (runs : s.check = some r)
include runs

theorem State.advanceCheck_passes (h : examine s.cores (s.scenes.get r.scene) r.next = .passed) :
    s.advanceCheck = s.endCheckPass r := by
  simp only [State.advanceCheck, runs, h]

theorem State.advanceCheck_fails {i : Nat} {why : CheckReason}
    (h : examine s.cores (s.scenes.get r.scene) r.next = .failed i why) :
    s.advanceCheck = s.endCheckFail r i why := by
  simp only [State.advanceCheck, runs, h]

theorem State.advanceCheck_goesOn {n : Nat} (h : examine s.cores (s.scenes.get r.scene) r.next = .goesOn n) :
    s.advanceCheck = { s with check := some { r with next := n } } := by
  simp only [State.advanceCheck, runs, h]

/-- R18, R110: the row CHECK_PASS ends a check that passes in the next computation. -/
theorem exec_checkPass (computes : s.computes = true)
    (h : examine s.cores (s.scenes.get r.scene) r.next = .passed) : exec .checkPass s = .next (s.endCheckPass r) := by
  refine (State.next_whileComputing computes _).trans (congrArg _ ?_)
  simp only [runs, h, if_true]

/-- R18, R110: the row CHECK_FAIL ends a check that fails in the next computation. -/
theorem exec_checkFail (computes : s.computes = true) {i : Nat} {why : CheckReason}
    (h : examine s.cores (s.scenes.get r.scene) r.next = .failed i why) :
    exec .checkFail s = .next (s.endCheckFail r i why) := by
  refine (State.next_whileComputing computes _).trans (congrArg _ ?_)
  simp only [runs, h]

end

/-- R108: the tap at which a check fails is the first of its next 64 that fails. -/
theorem examine_of_first {cores : Bank 4 RevCore} {sc : Scene} {n j : Nat} {tap : Tap} {why : CheckReason}
    (near : j < 64) (at_j : sc.taps[n + j]? = some tap) (fails : checkTap cores tap = some why)
    (before : ∀ i < j, ∀ u, sc.taps[n + i]? = some u → checkTap cores u = none) :
    examine cores sc n = .failed (n + j) why := by
  have shown : ∀ i < 64, ((sc.taps.drop n).take 64)[i]? = sc.taps[n + i]? := fun i hi => by
    rw [List.getElem?_take_of_lt hi, List.getElem?_drop]
  have found : firstFailure cores n ((sc.taps.drop n).take 64) = some (n + j, why) := by
    refine firstFailure_of_first n ((shown j near).trans at_j) fails fun i hi u hu => before i hi u ?_
    rwa [shown i (hi.trans near)] at hu
  unfold examine
  rw [found]

/-! ## The beginning of a computation -/

/-- R80, R98: the cores' states and the tap lists stand in `t` as in `s`. -/
def State.SameChecked (s t : State) : Prop :=
  (∀ c, (t.cores.get c).state = (s.cores.get c).state) ∧ ∀ i, (t.scenes.get i).taps = (s.scenes.get i).taps

theorem State.SameChecked.trans {s t u : State} (h : s.SameChecked t) (k : t.SameChecked u) : s.SameChecked u :=
  ⟨fun c => (k.1 c).trans (h.1 c), fun i => (k.2 i).trans (h.2 i)⟩

theorem State.SameChecked.of_eq {s t : State} (cores : t.cores = s.cores) (scenes : t.scenes = s.scenes) :
    s.SameChecked t :=
  ⟨fun c => by rw [cores], fun i => by rw [scenes]⟩

theorem State.sameChecked_fire (k : FrameNo) (s : State) : s.SameChecked (s.fire k) := by
  cases target : s.cue.target with
  | none => exact .of_eq (by simp [State.fire, target]) (by simp [State.fire, target])
  | some t =>
    rw [State.fire_of_target target, State.fireTarget_eq]
    exact ⟨fun c => (congrArg RevCore.state (Bank.get_map RevCore.fire s.cores c) :),
      fun i => (congrArg Scene.taps (fireScenes_get t s.scenes i) :)⟩

theorem State.sameChecked_endFade (s : State) : s.SameChecked s.endFade :=
  ⟨fun c => (congrArg RevCore.state (Bank.get_map RevCore.endFade s.cores c) :),
    fun i => (congrArg Scene.taps (endFadeScenes_get s.cue.target s.scenes i) :)⟩

theorem State.sameChecked_testCue (k : FrameNo) (s : State) : s.SameChecked (s.testCue k) := by
  cases due : s.fires k with
  | true =>
    rw [State.testCue_of_fires due]
    exact s.sameChecked_fire k
  | false =>
    rw [State.testCue_of_waits due]
    exact .of_eq rfl rfl

theorem State.sameChecked_tickFade (fired : Bool) (s : State) : s.SameChecked (s.tickFade fired) := by
  unfold State.tickFade
  split
  · dsimp only
    split
    · exact State.sameChecked_endFade { s with cue := s.cue.raise }
    · exact .of_eq rfl rfl
  · exact .of_eq rfl rfl

/-- R80, R98: neither the cue test nor a ramp tick moves a core's state or a tap list. -/
theorem State.sameChecked_beginComputation (k : FrameNo) (s : State) : s.SameChecked (s.beginComputation k) := by
  have tested := s.sameChecked_testCue k
  by_cases h : k.toNat % 48 = 0
  · obtain ⟨scenes, cores, -⟩ := s.beginComputation_cue_tick k h
    exact (tested.trans (State.sameChecked_tickFade (s.fires k) _)).trans (.of_eq cores scenes)
  · obtain ⟨⟨scenes, cores, -⟩, -⟩ := s.beginComputation_cue_between k h
    exact tested.trans (.of_eq cores scenes)

/-! ## The whole computation -/

/-- R108: a check's step looks at the check, the cores and the scenes alone. -/
theorem State.advanceCheck_congr {s t : State} (check : t.check = s.check) (cores : t.cores = s.cores)
    (scenes : t.scenes = s.scenes) :
    t.advanceCheck.check = s.advanceCheck.check ∧ t.advanceCheck.scenes = s.advanceCheck.scenes := by
  cases runs : s.check with
  | none => simp [State.advanceCheck, check, runs, scenes]
  | some r =>
    have same : t.check = some r := check.trans runs
    cases found : examine s.cores (s.scenes.get r.scene) r.next with
    | passed =>
      rw [State.advanceCheck_passes runs found, State.advanceCheck_passes same (by rw [cores, scenes, found]),
        State.endCheckPass_eq, State.endCheckPass_eq, scenes]
      exact ⟨rfl, rfl⟩
    | failed i why =>
      rw [State.advanceCheck_fails runs found, State.advanceCheck_fails same (by rw [cores, scenes, found]),
        State.endCheckFail_eq, State.endCheckFail_eq, scenes]
      exact ⟨rfl, rfl⟩
    | goesOn n =>
      rw [State.advanceCheck_goesOn runs found, State.advanceCheck_goesOn same (by rw [cores, scenes, found])]
      exact ⟨rfl, scenes⟩

/-- R108: a computation moves the check as its beginning has it. -/
theorem State.compute_check (k : FrameNo) (s : State) :
    (s.compute k).check = (s.beginComputation k).advanceCheck.check ∧
    (s.compute k).scenes = (s.beginComputation k).advanceCheck.scenes ∧
    (s.compute k).lane = (s.beginComputation k).advanceCheck.lane := by
  have samples : ((s.beginComputation k).runSamples k).check = (s.beginComputation k).advanceCheck.check ∧
      ((s.beginComputation k).runSamples k).scenes = (s.beginComputation k).advanceCheck.scenes := by
    simp only [State.runSamples, State.recordPeaks_check, State.recordPeaks_scenes, State.runCores_frame]
    exact State.advanceCheck_congr (by simp) (by simp) (by simp)
  have guards : (s.compute k).check = ((s.beginComputation k).runSamples k).check ∧
      (s.compute k).scenes = ((s.beginComputation k).runSamples k).scenes := by
    by_cases h : k.toNat % 48 = 0
    · rw [s.compute_tick k h]
      simp
    · rw [s.compute_between k h]
      exact ⟨rfl, rfl⟩
  have lane : (s.beginComputation k).lane = s.lane := by simp
  rw [s.compute_lane k, State.advanceCheck_lane, lane]
  exact ⟨guards.1.trans samples.1, guards.2.trans samples.2, rfl⟩

/-- Settles O44: the rows, a step of the check, and the check in a computation. -/
theorem checkAdvancesAndEndsWithItsReply : Obligations.CheckAdvancesAndEndsWithItsReply := by
  refine ⟨fun s r computes runs => ⟨fun passes short => ?_, fun j tap why near at_j fails before => ?_⟩,
    fun s idle => ?_, fun s r runs => ?_, fun s k => ?_⟩
  · have passed : examine s.cores (s.scenes.get r.scene) r.next = .passed := by
      rw [examine_of_passes fun t ht => passes t (List.mem_of_mem_take ht), if_pos short]
    refine ⟨s.endCheckPass r, exec_checkPass runs computes passed, ?_⟩
    rw [State.endCheckPass_eq]
    exact ⟨rfl, Bank.get_modify_self .., fun i hi => Bank.get_modify_of_ne _ hi _, rfl, rfl⟩
  · refine ⟨s.endCheckFail r (r.next + j) why,
      exec_checkFail runs computes (examine_of_first near at_j fails before), ?_⟩
    rw [State.endCheckFail_eq]
    exact ⟨rfl, Bank.get_modify_self .., fun i hi => Bank.get_modify_of_ne _ hi _, rfl, rfl⟩
  · simp only [State.advanceCheck, idle]
  · intro taps passes
    refine ⟨fun pass long => ?_, fun computes pass short => ?_, fun computes fails => ?_⟩
    · refine State.advanceCheck_goesOn runs ?_
      rw [examine_of_passes pass, if_neg (Nat.not_le.2 long)]
    · have passed : examine s.cores (s.scenes.get r.scene) r.next = .passed := by
        rw [examine_of_passes pass, if_pos short]
      rw [exec_checkPass runs computes passed, State.advanceCheck_passes runs passed]
    · obtain ⟨i, why, failed⟩ := examine_of_fails fails
      rw [exec_checkFail runs computes failed, State.advanceCheck_fails runs failed]
  · intro b
    obtain ⟨states, taps⟩ := s.sameChecked_beginComputation k
    exact ⟨by simp [b], by simp [b], states, taps, s.compute_check k⟩

end Sys2Proof.Machine
end

section
/-!
PROOFS. Settles O29: a core in a computation, and the count of its saturating lines (R80, R82 to R86, R92, R93).
-/

namespace Sys2Proof.Machine

/-! ## Writes at several positions -/

section
variable {ι : Type} (pos : ι → Nat) (val : ι → Sample)

/-- A position that no write names reads as before. -/
theorem SampleMem.read_foldl_write_other {p : Nat} (is : List ι) (away : ∀ i ∈ is, p ≠ pos i) {m : SampleMem}
    (hm : m.wf = true) : (is.foldl (fun m i => m.write (pos i) (val i)) m).read p = m.read p := by
  induction is generalizing m with
  | nil => rfl
  | cons i is ih =>
    rw [List.foldl_cons, ih (fun j hj => away j (List.mem_cons_of_mem _ hj)) (SampleMem.write_wf hm _ _)]
    exact SampleMem.read_write_other hm _ (away i List.mem_cons_self)

/-- Where no two writes share a position, each position written reads its value. -/
theorem SampleMem.read_foldl_write_same (apart : Function.Injective pos) {i : ι} (is : List ι) (member : i ∈ is)
    {m : SampleMem} (hm : m.wf = true) : (is.foldl (fun m i => m.write (pos i) (val i)) m).read (pos i) = val i := by
  induction is generalizing m with
  | nil => cases member
  | cons j js ih =>
    rw [List.foldl_cons]
    have written := SampleMem.write_wf hm (pos j) (val j)
    by_cases later : i ∈ js
    · exact ih later written
    · have first : i = j := (List.mem_cons.1 member).resolve_right later
      subst first
      rw [SampleMem.read_foldl_write_other pos val js (fun k hk same => later (by rwa [apart same])) written]
      exact SampleMem.read_write_same hm _ _

end

/-! ## The lines of a core (R75, R83) -/

/-- R75: the lines stand one after another. -/
theorem RevCore.lineBase_add_length_le (c : RevCore) {l m : Fin 8} (h : l < m) :
    c.lineBase l + c.lengths.get l ≤ c.lineBase m := by
  have upToNext : (c.lengths.items.take (l.val + 1)).sum = c.lineBase l + c.lengths.get l := by
    rw [List.sum_take_succ _ _ (by rw [c.lengths.size]; exact l.isLt)]
    rfl
  rw [← upToNext]
  exact (List.take_sublist_take_left (Nat.succ_le_of_lt h)).sum_le_sum (by simp)

/-- R75, R83: the oldest samples of two lines stand at different positions. -/
theorem RevCore.Lawful.position_injective {c : RevCore} (h : c.Lawful) : Function.Injective c.position := by
  obtain ⟨geometry, -⟩ := h
  have apart : ∀ l m : Fin 8, l < m → c.position l < c.position m := fun l m hlm => by
    obtain ⟨-, -, inside⟩ := geometry l
    have below := c.lineBase_add_length_le hlm
    unfold RevCore.position
    omega
  intro l m same
  rcases lt_trichotomy l m with below | equal | above
  · exact absurd same (apart l m below).ne
  · exact equal
  · exact absurd same (apart m l above).ne'

/-- R83: a smoothed sample is a sample. -/
theorem RevCore.smoothed_toSample {u : Targets} (h : u.damping ≤ 240) (c : RevCore) (l : Fin 8) :
    (toSample (c.smoothed u l)).toInt = c.smoothed u l := by
  have fits : ∀ x : Sample, -8388608 ≤ x.toInt ∧ x.toInt ≤ 8388607 := fun x =>
    ⟨BitVec.le_toInt x, Int.le_of_lt_add_one BitVec.toInt_lt⟩
  obtain ⟨lower, upper⟩ := smooth_mem h (c.mem.read (c.position l)).toInt (c.damp.get l).toInt
  have oldest := fits (c.mem.read (c.position l))
  have damped := fits (c.damp.get l)
  rw [toSample_toInt]
  unfold RevCore.smoothed
  omega

/-- R59, R84: a line of a core that is not SHAPED gives 0. -/
theorem RevCore.lineOutput_unshaped {c : RevCore} (h : c.state ≠ .shaped) (u : Targets) (l : Fin 8) :
    c.lineOutput u l = 0 :=
  if_neg h

theorem RevCore.lineOutput_shaped {c : RevCore} (h : c.state = .shaped) (u : Targets) (l : Fin 8) :
    c.lineOutput u l = scale23 ((u.absorption.get l : Int) * c.smoothed u l) :=
  if_pos h

/-! ## One computation of a core, by its state (R80, R82) -/

theorem RevCore.compute_of_unshaped {c : RevCore} (h : c.state = .unshaped) (w : Option Nat) (inj : Fin 8 → Int) :
    c.compute w inj = c := by
  simp only [RevCore.compute, h]

theorem RevCore.compute_of_shaping {c : RevCore} (h : c.state = .shaping) (w : Option Nat) (inj : Fin 8 → Int) :
    c.compute w inj = c.clearStep := by
  simp only [RevCore.compute, h]

theorem RevCore.compute_of_shaped {c : RevCore} (h : c.state = .shaped) (w : Option Nat) (inj : Fin 8 → Int) :
    c.compute w inj = c.runLines (c.formInUse w) inj := by
  simp only [RevCore.compute, h]

/-- R86: each line is written at its oldest sample, and no other position is. -/
theorem RevCore.Lawful.runLines_mem {c : RevCore} (h : c.Lawful) (u : Targets) (inj : Fin 8 → Int) :
    (∀ l, (c.runLines u inj).mem.read (c.position l) = toSample (c.lineInput u inj l)) ∧
    ∀ p, (∀ l, p ≠ c.position l) → (c.runLines u inj).mem.read p = c.mem.read p := by
  have apart := h.position_injective
  obtain ⟨-, -, wf, -⟩ := h
  exact ⟨fun l => SampleMem.read_foldl_write_same c.position (fun l => toSample (c.lineInput u inj l)) apart _
      (List.mem_finRange l) wf,
    fun p away => SampleMem.read_foldl_write_other c.position _ _ (fun l _ => away l) wf⟩

/-- R86: each line advances to its next sample, and from its last to its first. -/
theorem RevCore.Lawful.runLines_index {c : RevCore} (h : c.Lawful) (u : Targets) (inj : Fin 8 → Int) (l : Fin 8) :
    (c.runLines u inj).index.get l =
      if c.index.get l + 1 = c.lengths.get l then 0 else c.index.get l + 1 := by
  obtain ⟨-, -, inside⟩ := h.1 l
  have atEnd : c.lengths.get l ≤ c.index.get l + 1 ↔ c.index.get l + 1 = c.lengths.get l := by omega
  simp only [RevCore.runLines, Bank.get_ofFn, ge_iff_le, atEnd]

/-! ## The count of saturating lines (R86) -/

theorem State.coreClips_congr {s t : State} (cores : t.cores = s.cores) (w : Option Nat) (inj : Fin 4 → Fin 8 → Int) :
    t.coreClips w inj = s.coreClips w inj := by
  rw [State.coreClips, cores]
  rfl

/-- R86: the cores of a computation count their saturating lines, and latch CORE_CLIP when there are any. -/
theorem State.runCores_events (w : Option Nat) (inj : Fin 4 → Fin 8 → Int) (s : State) :
    (s.runCores w inj).events = { s.events with
      latch := if 0 < s.coreClips w inj then s.events.latch ||| Event.word .coreClip else s.events.latch
      coreClips := min top32 (s.events.coreClips + s.coreClips w inj) } := by
  rw [State.runCores, State.latchIf_events]
  by_cases clips : 0 < s.coreClips w inj <;> simp [clips, countUp]

theorem State.runCores_coreClip (w : Option Nat) (inj : Fin 4 → Fin 8 → Int) (s : State) :
    (s.runCores w inj).events.coreClips = min top32 (s.events.coreClips + s.coreClips w inj) ∧
    ((s.runCores w inj).events.latched .coreClip = true ↔
      s.events.latched .coreClip = true ∨ 0 < s.coreClips w inj) := by
  unfold State.runCores
  simp only [State.latchIf_events, Events.latched_eq, BitVec.getLsbD_or, Event.wordIf_bit]
  simp [countUp]

/-- R86: neither the pickups, the feeds nor the check touch that count. -/
theorem State.runSamples_coreClips (k : FrameNo) (s : State) :
    (s.runSamples k).events.coreClips =
      min top32 (s.events.coreClips + s.coreClips s.fadeWeight ((s.runPickups k).injection k)) ∧
    ((s.runSamples k).events.latched .coreClip = true ↔
      s.events.latched .coreClip = true ∨ 0 < s.coreClips s.fadeWeight ((s.runPickups k).injection k)) := by
  have pickups : (s.runPickups k).events.coreClips = s.events.coreClips ∧
      (s.runPickups k).events.latched .coreClip = s.events.latched .coreClip := by
    unfold State.runPickups
    simp only [State.latchIf_events, Events.latched_eq, BitVec.getLsbD_or, Event.wordIf_bit]
    simp
  have feeds : ∀ (n : Nat) (t : State), (t.countFeedClips n).events.coreClips = t.events.coreClips ∧
      (t.countFeedClips n).events.latched .coreClip = t.events.latched .coreClip := by
    intro n t
    unfold State.countFeedClips
    simp only [State.latchIf_events, Events.latched_eq, BitVec.getLsbD_or, Event.wordIf_bit]
    simp
  have check : ∀ t : State, t.advanceCheck.events = t.events := fun t => by simp
  have weight : (s.runPickups k).fadeWeight = s.fadeWeight := by simp [State.fadeWeight]
  have cores : ∀ n, (((s.runPickups k).countFeedClips n).advanceCheck).cores = s.cores := fun n => by simp
  unfold State.runSamples
  rw [State.recordPeaks_events, (State.runCores_coreClip ..).1, (State.runCores_coreClip ..).2, check,
    (feeds ..).1, (feeds ..).2, pickups.1, pickups.2, weight, State.coreClips_congr (cores _)]
  exact ⟨rfl, Iff.rfl⟩

/-- R86: so does the whole computation. -/
theorem State.compute_coreClips (k : FrameNo) (s : State) :
    let b := s.beginComputation k
    let n := b.coreClips b.fadeWeight ((b.runPickups k).injection k)
    (s.compute k).events.coreClips = min top32 (s.events.coreClips + n) ∧
    ((s.compute k).events.latched .coreClip = true ↔ s.events.latched .coreClip = true ∨ 0 < n) := by
  intro b n
  have begun : b.events.coreClips = s.events.coreClips ∧ b.events.latched .coreClip = s.events.latched .coreClip := by
    obtain ⟨counters, latches⟩ := s.beginComputation_events k
    refine ⟨by rw [counters], ?_⟩
    rw [latches .coreClip (by simp)]
    simp
  obtain ⟨count, latch⟩ := b.runSamples_coreClips k
  rw [begun.1] at count
  rw [begun.2] at latch
  by_cases ht : k.toNat % 48 = 0
  · have guards : ∀ m,
        ((b.runSamples k).tickGuard m).events.coreClips = (b.runSamples k).events.coreClips := fun m => by
      rw [(State.tickGuard_events ..).1]
    rw [s.compute_tick k ht, guards, State.tickGuard_latched_other (by simp)]
    exact ⟨count, latch⟩
  · rw [s.compute_between k ht]
    exact ⟨count, latch⟩

/-- R80, R82: a computation runs every core with the weight that its beginning leaves. -/
theorem State.compute_cores (k : FrameNo) (s : State) (c : Fin 4) :
    let b := s.beginComputation k
    (s.compute k).cores.get c = (b.cores.get c).compute b.fadeWeight ((b.runPickups k).injection k c) := by
  intro b
  have weight : (b.runPickups k).fadeWeight = b.fadeWeight := by simp [State.fadeWeight]
  have samples : (b.runSamples k).cores.get c =
      (b.cores.get c).compute b.fadeWeight ((b.runPickups k).injection k c) := by
    simp [State.runSamples, State.runCores, weight]
  by_cases ht : k.toNat % 48 = 0
  · rw [s.compute_tick k ht, ← samples]
    simp [b]
  · rw [s.compute_between k ht, ← samples]

/-- Settles O29, clause by clause. -/
theorem coresClearOrRunInAComputation : Obligations.CoresClearOrRunInAComputation := by
  refine ⟨fun s k c => s.compute_cores k c, fun s k => s.compute_coreClips k, fun c w inj => ?_,
    fun s w inj => s.runCores_events w inj⟩
  intro t u
  refine ⟨?_, ?_, fun other l => c.lineOutput_unshaped other u l, fun state => RevCore.compute_of_unshaped state w inj,
    fun state => ?_, fun state law weight => ?_⟩
  · rintro rfl
    rfl
  · rintro v rfl
    exact ⟨fun l => Bank.get_ofFn .., rfl⟩
  · have cleared : t = c.clearStep := RevCore.compute_of_shaping state w inj
    rw [cleared]
    exact ⟨rfl, fun p => SampleMem.read_clearRange_eq ..⟩
  · intro place y z a share
    have ran : t = c.runLines u inj := RevCore.compute_of_shaped state w inj
    have output : ∀ l, c.lineOutput u l = a l := c.lineOutput_shaped state u
    have shared : c.share u = share := by
      have outputs : c.lineOutput u = a := funext output
      rw [RevCore.share, outputs]
    have input : ∀ l, c.lineInput u inj l = a l - share + inj l := fun l => by
      rw [RevCore.lineInput, output, shared]
    obtain ⟨written, kept⟩ := law.runLines_mem u inj
    rw [ran]
    refine ⟨rfl, fun l => ⟨output l, ?_, law.runLines_index u inj l, ?_⟩, kept, ?_⟩
    · exact (congrArg BitVec.toInt (Bank.get_ofFn ..)).trans (RevCore.smoothed_toSample (law.formInUse weight).2 c l)
    · rw [← input, ← toSample_toInt]
      exact congrArg BitVec.toInt (written l)
    · simp only [RevCore.clips, overflows24_iff, input]

end Sys2Proof.Machine
end

section
/-!
PROOFS. Settles O48: the refusals of R176's first steps, in QUIET and for a wrong length (R101, R175, R176). Every row
of fixed length goes through `judged`, so its table entry says what it comes to.
-/

namespace Sys2Proof.Machine

section
variable {s : State} {e : Entry} {rest : List Entry} {kind : Byte} {n : Nat} (h : s.Takes e rest kind n)
include h

/-- R162: a taken command that is no query is settled by what its row judges. -/
theorem State.Takes.settles (judge : Entry → State → Verdict) :
    s.laneCommand kind false judge .queued = (s.popQueue rest).settle e (judge e (s.popQueue rest)) :=
  (h.laneCommand false judge).trans (State.carryOut_posted judge e _)

/-- R177: a taken command judged refused leaves its refusal, a query or not: an unread broadcast query latches
COMMAND_REFUSED as a refused one does. -/
theorem State.Takes.refuses {judge : Entry → State → Verdict} {st : Status}
    (refused : judge e (s.popQueue rest) = .refused st) (query : Bool) :
    s.laneCommand kind query judge .queued = (s.popQueue rest).refusal e st := by
  rw [h.laneCommand]
  rcases State.carryOut_cases query judge e (s.popQueue rest) with ⟨-, unread, carried⟩ | ⟨-, carried⟩
  · rw [carried, State.refusal, if_pos unread]
  · rw [carried, refused, State.settle_refusal]

end

/-- R176: a row of one parameter length judges its command by the condition and that length first. -/
def JudgedRow (kind : Byte) (n : Nat) (row : Taking → Instr) : Prop :=
  ∃ (inQuiet query : Bool) (judge : Entry → List Byte → State → Verdict),
    (inQuiet = true ↔ kind ∈ [(1 : Byte), 8, 9, 12]) ∧
    ∀ t s, exec (row t) s = .next (s.laneCommand kind query (fun e => judged inQuiet n (judge e) e) t)

/-- R175: the table's rows of fixed length, one by one. -/
theorem judgedRow_of_fixedRows {r : Byte × Nat × (Taking → Instr)} (member : r ∈ fixedRows) :
    JudgedRow r.1 r.2.1 r.2.2 := by
  simp only [fixedRows, List.mem_append, List.mem_cons, List.not_mem_nil, or_false] at member
  rcases member with
    (rfl | rfl | rfl | rfl | rfl | rfl | rfl | rfl | rfl | rfl | rfl | rfl | rfl | rfl | rfl) |
    (rfl | rfl | rfl | rfl | rfl | rfl | rfl | rfl | rfl | rfl | rfl | rfl | rfl | rfl) <;>
  · refine ⟨_, _, _, ?_, fun _ _ => rfl⟩
    decide

/-- R175: QUIET refuses TAP_WRITE and all rows of fixed length but four. -/
theorem quietRefusedRows_eq : quietRefusedRows =
    ((fixedRows.filter fun r => r.1 ∉ [(1 : Byte), 8, 9, 12]).map fun r => (r.1, r.2.2)).insertIdx 14
      (33, .tapWrite) := rfl

theorem quietRefusedRows_cases {row : Byte × (Taking → Instr)} (member : row ∈ quietRefusedRows) :
    row = (33, .tapWrite) ∨ ∃ n, (row.1, n, row.2) ∈ fixedRows ∧ row.1 ∉ [(1 : Byte), 8, 9, 12] := by
  rw [quietRefusedRows_eq] at member
  refine (List.eq_or_mem_of_mem_insertIdx member).imp_right fun fixed => ?_
  obtain ⟨⟨kind, n, row⟩, kept, rfl⟩ := List.mem_map.1 fixed
  obtain ⟨length, refusing⟩ := List.mem_filter.1 kept
  exact ⟨n, length, of_decide_eq_true refusing⟩

/-- R101: the lengths TAP_WRITE refuses. -/
theorem judgeTapWrite_badLength {p : List Byte} (s : State)
    (wrong : p.length < 4 ∨ 54 < at8 p 3 ∨ p.length ≠ 4 + 8 * at8 p 3) : judgeTapWrite p s = .refused .badLength :=
  if_pos wrong

section
variable {inQuiet : Bool} {n : Nat} {judge : List Byte → State → Verdict} {e : Entry} {s : State}

/-- R176: a kind that QUIET refuses. -/
theorem judged_quiet (quiet : s.hold.condition = .quiet) (refusing : inQuiet = false) :
    judged inQuiet n judge e s = .refused .quiet :=
  if_pos ⟨quiet, refusing⟩

/-- R176: a kind that may be taken, of another length. -/
theorem judged_badLength (taken : s.hold.condition = .quiet → inQuiet = true) (wrong : e.params.length ≠ n) :
    judged inQuiet n judge e s = .refused .badLength := by
  unfold judged
  rw [if_neg fun ⟨quiet, refusing⟩ => Bool.noConfusion ((taken quiet).symm.trans refusing), if_pos wrong]

end

/-- R176: a row of fixed length refuses another one where its kind may be taken. -/
theorem fixedRows_badLength {kind : Byte} {n : Nat} {row : Taking → Instr} {s : State} {e : Entry} {rest : List Entry}
    (member : (kind, n, row) ∈ fixedRows) (h : s.Takes e rest kind e.params.length)
    (taken : s.hold.condition = .quiet → kind ∈ [(1 : Byte), 8, 9, 12]) (wrong : e.params.length ≠ n) :
    exec (row .queued) s = .next ((s.popQueue rest).refusal e .badLength) := by
  obtain ⟨_, _, _, admits, judges⟩ := judgedRow_of_fixedRows member
  refine (judges .queued s).trans (congrArg _ (h.refuses ?_ _))
  exact judged_badLength (fun quiet => admits.2 (taken quiet)) wrong

/-- Settles O48: QUIET first, then the length. -/
theorem quietAndWrongLengthAreRefused : Obligations.QuietAndWrongLengthAreRefused := by
  refine ⟨fun row s e rest member h quiet => ?_, fun kind n row s e rest member h awake wrong => ?_,
    fun s e rest h awake wrong => ?_, fun kind n row s e rest member admitted h wrong => ?_⟩
  · rcases quietRefusedRows_cases member with rfl | ⟨n, fixed, refusing⟩
    · exact congrArg _ (h.refuses (if_pos quiet) false)
    · obtain ⟨inQuiet, _, _, admits, judges⟩ := judgedRow_of_fixedRows fixed
      refine (judges .queued s).trans (congrArg _ (h.refuses ?_ _))
      exact judged_quiet (s := s.popQueue rest) quiet (Bool.eq_false_iff.2 (mt admits.1 refusing))
  · exact fixedRows_badLength member h (fun quiet => absurd quiet awake) wrong
  · exact congrArg _ (h.refuses ((if_neg awake).trans (judgeTapWrite_badLength _ wrong)) false)
  · exact fixedRows_badLength member h (fun _ => admitted) wrong

end Sys2Proof.Machine
end

section
/-!
PROOFS. Settles O57: SCENE_CHECK starts a check, passes an empty tap list at once, or is refused (R107, R110).
-/

namespace Sys2Proof.Machine

/-! ## The tests that the scene commands share (R101, R103, R104, R107) -/

theorem onUnlocked_badIndex {x : Nat} (high : 15 < x) (s : State) (act : Fin 16 → Verdict) :
    onUnlocked x s act = .refused .badIndex := by
  unfold onUnlocked
  rw [index?_of_ge (by omega)]

section
variable {x : Nat} {i : Fin 16} (number : x = i.val) {s : State}
include number

theorem onUnlocked_locked (locked : (s.scenes.get i).state.locked = true) (act : Fin 16 → Verdict) :
    onUnlocked x s act = .refused .sceneLocked := by
  unfold onUnlocked
  rw [index?_val number]
  exact if_pos locked

theorem onUnlocked_free (free : (s.scenes.get i).state.locked = false) (act : Fin 16 → Verdict) :
    onUnlocked x s act = act i := by
  unfold onUnlocked
  rw [index?_val number]
  exact if_neg (by simp [free])

end

/-- R107: a taken SCENE_CHECK outside QUIET is settled by the scene tests, then by its own. -/
theorem State.Takes.sceneCheck {s : State} {e : Entry} {rest : List Entry} (h : s.Takes e rest 36 1)
    (awake : s.hold.condition ≠ .quiet) : exec (.sceneCheck .queued) s =
      .next ((s.popQueue rest).settle e (judgeSceneCheck e e.params (s.popQueue rest))) := by
  obtain ⟨-, -, -, length, -⟩ := id h
  refine congrArg _ ((h.settles _).trans ?_)
  rw [judged_ready (s := s.popQueue rest) awake length]

/-- R107: SCENE_CHECK's own tests in their order. -/
theorem judgeSceneCheck_free {e : Entry} {p : List Byte} {s : State} {i : Fin 16} (number : at8 p 0 = i.val)
    (free : (s.scenes.get i).state.locked = false) : judgeSceneCheck e p s =
      if (s.scenes.get i).state = .empty then .refused .notReady
      else if s.check.isSome then .refused .busy else startCheck e i s :=
  onUnlocked_free number free _

/-- Settles O57: the tests in their order, then the check. -/
theorem sceneCheckStartsOrRefuses : Obligations.SceneCheckStartsOrRefuses := by
  intro s e rest i h awake number free
  let p := s.popQueue rest
  have settled := h.sceneCheck awake
  rw [judgeSceneCheck_free (s := p) number free] at settled
  refine ⟨fun empty => settled.trans ?_, fun filled busy => settled.trans ?_, fun filled idle => ?_⟩
  · rw [if_pos (show (p.scenes.get i).state = .empty from empty), State.settle_refusal]
  · rw [if_neg (show (p.scenes.get i).state ≠ .empty from filled), if_pos (show p.check.isSome = true from busy),
      State.settle_refusal]
  rw [if_neg (show (p.scenes.get i).state ≠ .empty from filled),
    if_neg (show ¬p.check.isSome = true by simp [p, idle])] at settled
  by_cases bare : (s.scenes.get i).taps = []
  · have count : (p.scenes.get i).tapCount = 0 := List.length_eq_zero_iff.2 bare
    refine ⟨s.scenes.modify i fun sc => { sc with state := .ready, result := .passed },
      fun j hj => Bank.get_modify_of_ne _ hj _, by simp, by simp, (absurd bare ·),
      fun _ => ⟨by simp, by simp, settled.trans ?_⟩⟩
    rw [startCheck, if_pos count]
    rfl
  · have count : (p.scenes.get i).tapCount ≠ 0 := mt List.length_eq_zero_iff.1 bare
    refine ⟨s.scenes.modify i fun sc => { sc with state := .checking },
      fun j hj => Bank.get_modify_of_ne _ hj _, by simp, by simp, fun _ => ⟨by simp, by simp, settled.trans ?_⟩,
      (absurd · bare)⟩
    rw [startCheck, if_neg count]
    rfl

end Sys2Proof.Machine
end

section
/-!
PROOFS. Settles O55 and O56: SCENE_HEAD, TAP_WRITE and SCENE_CLEAR (R97, R101 to R105, R111). The three are one edit
of the scene's record, `State.editScene`: it ends a check of that scene first and moves nothing else.
-/

namespace Sys2Proof.Machine

/-! ## The header and the tap list an edit stores (R97, R102) -/

/-- R97: every field of the header a SCENE_HEAD carries, as stored. -/
theorem headerOf_clamps (p : List Byte) :
    (headerOf p).Lawful ∧ (headerOf p).fadeCode = min 13 (at8 p 1) ∧
    (at16 p 2 = 0 → (headerOf p).wander = 0) ∧
    (0 < at16 p 2 → (headerOf p).wander = max 1000 (min 60000 (at16 p 2))) ∧
    ∀ c : Fin 4, (headerOf p).damping.get c = min 240 (at8 p (12 + c.val)) ∧
      (at16 p (4 + 2 * c.val) = 0 → (headerOf p).decay.get c = 0) ∧
      (0 < at16 p (4 + 2 * c.val) → (headerOf p).decay.get c = max 100 (min 12000 (at16 p (4 + 2 * c.val)))) := by
  have decay : ∀ c, (headerOf p).decay.get c = clampDecay (at16 p (4 + 2 * c.val)) := fun c => Bank.get_ofFn ..
  exact ⟨headerOf_lawful p, rfl, fun off => if_pos off, fun on => if_neg on.ne', fun c =>
    ⟨Bank.get_ofFn .., fun off => (decay c).trans (if_pos off), fun on => (decay c).trans (if_neg on.ne')⟩⟩

/-- R184: the records a TAP_WRITE carries. -/
@[simp] theorem tapRecords_length (p : List Byte) (count : Nat) : (tapRecords p count).length = count := by
  simp [tapRecords]

theorem tapRecords_getElem? (p : List Byte) {count j : Nat} (h : j < count) :
    (tapRecords p count)[j]? = some (tapAt p (4 + 8 * j)) := by
  simp [tapRecords, h]

/-- R102: as many records are kept as are written. -/
theorem take_tapsWritten_length (first : Nat) (records : List Tap) :
    (records.take (tapsWritten first records.length)).length = tapsWritten first records.length :=
  List.length_take_of_le (Nat.min_le_left ..)

section
variable {taps : List Tap} {first : Nat} (near : first ≤ taps.length) (records : List Tap)
include near

/-- R102: records written from inside a list or from its end leave no gap and raise its length. -/
theorem writeTaps_length :
    (writeTaps taps first records).length = max taps.length (first + tapsWritten first records.length) := by
  rw [writeTaps, take_tapsWritten_length, List.length_append, List.length_append, List.length_take_of_le near,
    take_tapsWritten_length, List.length_drop]
  omega

/-- R102: below and past the records written the list stays. -/
theorem writeTaps_outside {j : Nat} (outside : j < first ∨ first + tapsWritten first records.length ≤ j) :
    (writeTaps taps first records)[j]? = taps[j]? := by
  have before : (taps.take first).length = first := List.length_take_of_le near
  have written := take_tapsWritten_length first records
  simp only [writeTaps, written]
  rcases outside with below | past
  · rw [List.append_assoc, List.getElem?_append_left (by omega), List.getElem?_take_of_lt below]
  · rw [List.getElem?_append_right (by simpa only [List.length_append, before, written] using past),
      List.getElem?_drop, List.length_append, before, written, Nat.add_sub_cancel' past]

/-- R102: the records written stand in their order. -/
theorem writeTaps_inside {j : Nat} (inside : j < tapsWritten first records.length) :
    (writeTaps taps first records)[first + j]? = records[j]? := by
  have before : (taps.take first).length = first := List.length_take_of_le near
  rw [writeTaps, List.append_assoc, List.getElem?_append_right (by omega), before, Nat.add_sub_cancel_left,
    List.getElem?_append_left (by rwa [take_tapsWritten_length]), List.getElem?_take_of_lt inside]

end

/-- R101, R102: what a TAP_WRITE makes of a tap list. -/
theorem writeTaps_tapRecords {taps : List Tap} {first : Nat} (near : first ≤ taps.length) (p : List Byte)
    (count : Nat) :
    (writeTaps taps first (tapRecords p count)).length = max taps.length (first + tapsWritten first count) ∧
    (∀ j, j < first ∨ first + tapsWritten first count ≤ j →
      (writeTaps taps first (tapRecords p count))[j]? = taps[j]?) ∧
    ∀ j < tapsWritten first count,
      (writeTaps taps first (tapRecords p count))[first + j]? = some (tapAt p (4 + 8 * j)) := by
  have length := writeTaps_length near (tapRecords p count)
  have outside := fun j => writeTaps_outside (j := j) near (tapRecords p count)
  have inside := fun j => writeTaps_inside (j := j) near (tapRecords p count)
  rw [tapRecords_length] at length outside inside
  exact ⟨length, outside, fun j hj =>
    (inside j hj).trans (tapRecords_getElem? p (hj.trans_le (Nat.min_le_left ..)))⟩

/-! ## The edit of one scene (R102 to R105, R111) -/

/-- R103: the record with a new header. -/
def Scene.withHeader (h : Header) (sc : Scene) : Scene := { sc with header := h, state := .editing }

/-- R102: the record with tap records written. -/
def Scene.withTaps (first : Nat) (records : List Tap) (sc : Scene) : Scene :=
  { sc with taps := writeTaps sc.taps first records, state := .editing }

/-- R105, R111: scene `i` edited: a check of it ends first. -/
def State.editScene (i : Fin 16) (f : Scene → Scene) (s : State) : State :=
  { s.abortCheckOf i with scenes := (s.abortCheckOf i).scenes.modify i f }

theorem State.setHeader_eq (i : Fin 16) (h : Header) (s : State) :
    s.setHeader i h = s.editScene i (.withHeader h) := rfl

theorem State.putTaps_eq (i : Fin 16) (first : Nat) (records : List Tap) (s : State) :
    s.putTaps i first records = s.editScene i (.withTaps first records) := rfl

theorem State.clearScene_eq (i : Fin 16) (s : State) : s.clearScene i = s.editScene i fun _ => Scene.reset := rfl

/-- R111: a running check of scene `r.scene` ended with ABORTED, the scene edited, and further replies sent. -/
def State.endCheckEdited (r : CheckRun) (f : Scene → Scene) (more : List Reply) (s : State) : State :=
  { s with
    check := none
    scenes := s.scenes.modify r.scene f
    lane := { s.lane with
      ready := s.lane.ready ++ (r.replyTo.toList.map fun k => k.reply .aborted [octet r.scene.val]) ++ more } }

theorem Bank.modify_modify {n : Nat} {α : Type} (b : Bank n α) (i : Fin n) (f g : α → α) :
    (b.modify i g).modify i f = b.modify i (f ∘ g) := by
  refine Bank.ext_get fun j => ?_
  simp only [Bank.get_modify, Function.comp]
  split <;> rfl

section
variable {s : State} {i : Fin 16} (f : Scene → Scene)

/-- R111: an edit of another scene than the one being checked leaves the check. -/
theorem State.editScene_unchecked (unchecked : s.check.map CheckRun.scene ≠ some i) :
    s.editScene i f = { s with scenes := s.scenes.modify i f } := by
  have kept : s.abortCheckOf i = s := by
    unfold State.abortCheckOf
    split
    · rfl
    · rename_i r runs
      exact if_neg fun same => unchecked (by rw [runs, ← same]; rfl)
  rw [State.editScene, kept]

/-- R105, R111: an edit of the scene being checked ends the check, then is applied; the EDITING state of the ended
check makes no difference to an edit that sets the state itself. -/
theorem State.editScene_checked {r : CheckRun} (runs : s.check = some r)
    (sets : ∀ sc : Scene, f { sc with state := .editing } = f sc) :
    s.editScene r.scene f = s.endCheckEdited r f [] := by
  have ended : s.abortCheckOf r.scene = s.abortCheck := by simp [State.abortCheckOf, runs]
  obtain ⟨idle, lane, edited⟩ := s.abortCheck_leaves
  simp only [runs] at edited
  rw [State.editScene, ended, s.abortCheck_eq, idle, lane, edited, Bank.modify_modify,
    show (f ∘ fun sc : Scene => { sc with state := .editing }) = f from funext sets, State.abortReplies, runs]
  simp only [State.endCheckEdited, List.append_nil]

end

theorem State.endCheckEdited_reply (r : CheckRun) (f : Scene → Scene) (s : State) (k : Ticket) (st : Status)
    (d : List Byte) (due : Prop) [Decidable due] :
    (if due then (s.endCheckEdited r f []).pushReply k st d else s.endCheckEdited r f []) =
      s.endCheckEdited r f (if due then [k.reply st d] else []) := by
  split
  · simp [State.endCheckEdited, State.pushReply]
  · rfl

/-! ## The takings -/

section
variable {s : State} {e : Entry} {rest : List Entry} (awake : s.hold.condition ≠ .quiet)
include awake

theorem State.Takes.sceneHead (h : s.Takes e rest 32 16) : exec (.sceneHead .queued) s =
    .next ((s.popQueue rest).settle e (onUnlocked (at8 e.params 0) (s.popQueue rest) fun i =>
      applied ((s.popQueue rest).setHeader i (headerOf e.params)))) :=
  congrArg _ (h.posted awake false _)

theorem State.Takes.sceneClear (h : s.Takes e rest 35 1) : exec (.sceneClear .queued) s =
    .next ((s.popQueue rest).settle e (onUnlocked (at8 e.params 0) (s.popQueue rest) fun i =>
      applied ((s.popQueue rest).clearScene i))) :=
  congrArg _ (h.posted awake false _)

/-- R101: a TAP_WRITE whose length follows its count is settled by the scene tests, then by the gap. -/
theorem State.Takes.tapWrite (few : at8 e.params 3 ≤ 54) (h : s.Takes e rest 33 (4 + 8 * at8 e.params 3)) :
    exec (.tapWrite .queued) s =
      .next ((s.popQueue rest).settle e (onUnlocked (at8 e.params 0) (s.popQueue rest) fun i =>
        if (s.scenes.get i).tapCount < at16 e.params 1 then .refused .gap
        else .taken ((s.popQueue rest).putTaps i (at16 e.params 1) (tapRecords e.params (at8 e.params 3)))
          (dropReplyData i (at16 e.params 1) (at8 e.params 3)))) := by
  have ⟨_, _, _, length, _⟩ := h
  refine congrArg _ ((h.settles _).trans ?_)
  rw [if_neg (show (s.popQueue rest).hold.condition ≠ .quiet from awake), judgeTapWrite, if_neg (by omega)]
  rfl

section
variable {i : Fin 16} (number : at8 e.params 0 = i.val) (free : (s.scenes.get i).state.locked = false)
include number free

theorem State.Takes.sceneHead_taken (h : s.Takes e rest 32 16) :
    exec (.sceneHead .queued) s = .next ((s.popQueue rest).editScene i (.withHeader (headerOf e.params))) := by
  rw [h.sceneHead awake, onUnlocked_free (s := s.popQueue rest) number free, State.settle_applied, State.setHeader_eq]

theorem State.Takes.sceneClear_taken (h : s.Takes e rest 35 1) :
    exec (.sceneClear .queued) s = .next ((s.popQueue rest).editScene i fun _ => Scene.reset) := by
  rw [h.sceneClear awake, onUnlocked_free (s := s.popQueue rest) number free, State.settle_applied,
    State.clearScene_eq]

variable (few : at8 e.params 3 ≤ 54) (h : s.Takes e rest 33 (4 + 8 * at8 e.params 3))
include few h

/-- R101: a TAP_WRITE past the tap count. -/
theorem State.Takes.tapWrite_gap (far : (s.scenes.get i).taps.length < at16 e.params 1) :
    exec (.tapWrite .queued) s = .next ((s.popQueue rest).refusal e .gap) := by
  rw [h.tapWrite awake few, onUnlocked_free (s := s.popQueue rest) number free,
    if_pos (show (s.scenes.get i).tapCount < _ from far), State.settle_refusal]

/-- R102: a TAP_WRITE taken: its records, and for a unicast one that dropped records the DONE reply. -/
theorem State.Takes.tapWrite_taken (near : at16 e.params 1 ≤ (s.scenes.get i).taps.length) :
    let t := (s.popQueue rest).editScene i (.withTaps (at16 e.params 1) (tapRecords e.params (at8 e.params 3)))
    let written := tapsWritten (at16 e.params 1) (at8 e.params 3)
    exec (.tapWrite .queued) s = .next (if written < at8 e.params 3 ∧ e.broadcast = false
      then t.pushReply e.ticket .done (octet i.val :: octets2 (at16 e.params 1) ++ [octet written]) else t) := by
  intro t written
  rw [h.tapWrite awake few, onUnlocked_free (s := s.popQueue rest) number free,
    if_neg (show ¬(s.scenes.get i).tapCount < _ from Nat.not_lt.2 near), State.putTaps_eq, dropReplyData]
  by_cases drops : written < at8 e.params 3
  · rw [if_pos drops]
    cases broadcast : e.broadcast <;> simp [State.settle, broadcast, drops, t, written]
  · rw [if_neg drops, if_neg fun both => drops both.1]
    rfl

end

end

/-- R101, R103, R104, R107: the four scene commands meet the scene tests before their own. -/
theorem State.Takes.sceneRow {s : State} {e : Entry} {rest : List Entry} {kind : Byte} {n : Nat} {row : Taking → Instr}
    (h : s.Takes e rest kind n) (awake : s.hold.condition ≠ .quiet)
    (rows : kind = 32 ∧ n = 16 ∧ row = .sceneHead ∨ kind = 33 ∧ at8 e.params 3 ≤ 54 ∧
      n = 4 + 8 * at8 e.params 3 ∧ row = .tapWrite ∨ kind = 35 ∧ n = 1 ∧ row = .sceneClear ∨
      kind = 36 ∧ n = 1 ∧ row = .sceneCheck) :
    ∃ act, exec (row .queued) s =
      .next ((s.popQueue rest).settle e (onUnlocked (at8 e.params 0) (s.popQueue rest) act)) := by
  rcases rows with ⟨rfl, rfl, rfl⟩ | ⟨rfl, few, rfl, rfl⟩ | ⟨rfl, rfl, rfl⟩ | ⟨rfl, rfl, rfl⟩
  · exact ⟨_, h.sceneHead awake⟩
  · exact ⟨_, h.tapWrite awake few⟩
  · exact ⟨_, h.sceneClear awake⟩
  · exact ⟨_, h.sceneCheck awake⟩

theorem Scene.reset_isReset : Scene.reset.IsReset :=
  ⟨rfl, rfl, rfl, rfl, rfl, fun _ => ⟨Bank.get_fill .., Bank.get_fill ..⟩⟩

/-- Settles O55, command by command. -/
theorem sceneEditingChangesTheRecord : Obligations.SceneEditingChangesTheRecord := by
  intro s e rest kind n i h awake number free unchecked
  let p := s.popQueue rest
  have edited : ∀ f, p.editScene i f = { p with scenes := s.scenes.modify i f } := fun f =>
    State.editScene_unchecked (s := p) f unchecked
  have others : ∀ (f : Scene → Scene) j, j ≠ i → (s.scenes.modify i f).get j = s.scenes.get j := fun f j hj =>
    Bank.get_modify_of_ne _ hj f
  refine ⟨?_, ?_, ?_⟩
  · rintro rfl rfl
    refine ⟨s.scenes.modify i (.withHeader (headerOf e.params)), ?_, others _, ?_⟩
    · rw [h.sceneHead_taken awake number free, edited]
    · rw [Bank.get_modify_self]
      exact ⟨rfl, rfl, rfl, headerOf_clamps e.params⟩
  · rintro rfl few rfl first count written old
    refine ⟨fun far => h.tapWrite_gap awake number free few far, fun near _ => ?_⟩
    refine ⟨s.scenes.modify i (.withTaps first (tapRecords e.params count)), _,
      h.tapWrite_taken awake number free few near, ?_, others _, ?_⟩
    · rw [edited]
      rfl
    · rw [Bank.get_modify_self]
      exact ⟨rfl, rfl, rfl, writeTaps_tapRecords near e.params count⟩
  · rintro rfl rfl
    refine ⟨s.scenes.modify i fun _ => Scene.reset, ?_, others _, ?_⟩
    · rw [h.sceneClear_taken awake number free, edited]
    · rw [Bank.get_modify_self]
      exact Scene.reset_isReset

/-- Settles O56: the scene tests, the gap, and each edit of the scene being checked. -/
theorem lockedScenesRefuseAndEditsAbortChecks : Obligations.LockedScenesRefuseAndEditsAbortChecks := by
  intro s e rest kind n row rows h awake
  let p := s.popQueue rest
  obtain ⟨act, settled⟩ := h.sceneRow awake rows
  refine ⟨fun high => ?_, fun i number locked => ?_, fun i number free tapWrite far => ?_,
    fun i r number free runs scene edits => ?_⟩
  · rw [settled, onUnlocked_badIndex high, State.settle_refusal]
  · rw [settled, onUnlocked_locked (s := p) number locked, State.settle_refusal]
  · subst tapWrite
    obtain ⟨few, rfl, rfl⟩ : at8 e.params 3 ≤ 54 ∧ n = 4 + 8 * at8 e.params 3 ∧ row = .tapWrite := by simpa using rows
    exact h.tapWrite_gap awake number free few far
  intro old first count written near
  subst scene
  have edited : ∀ f, (∀ sc : Scene, f { sc with state := .editing } = f sc) →
      p.editScene r.scene f = p.endCheckEdited r f [] := fun f => State.editScene_checked f (s := p) runs
  have own : ∀ f more, (p.endCheckEdited r f more).scenes.get r.scene = f old := fun f more => Bank.get_modify_self ..
  have others : ∀ f more j, j ≠ r.scene → (p.endCheckEdited r f more).scenes.get j = s.scenes.get j :=
    fun f more j hj => Bank.get_modify_of_ne _ hj f
  rcases rows with ⟨rfl, rfl, rfl⟩ | ⟨rfl, few, rfl, rfl⟩ | ⟨rfl, rfl, rfl⟩ | ⟨rfl, -⟩
  · refine ⟨p.endCheckEdited r (.withHeader (headerOf e.params)) [], ?_, rfl, ?_⟩
    · rw [h.sceneHead_taken awake number free, edited _ fun _ => rfl]
    · rw [own]
      exact ⟨rfl, fun _ => rfl, fun _ => ⟨rfl, headerOf_clamps e.params⟩, fun k => absurd k (by decide),
        fun k => absurd k (by decide), rfl, others _ _, rfl⟩
  · refine ⟨p.endCheckEdited r (.withTaps first (tapRecords e.params count))
      (if written < count ∧ e.broadcast = false
        then [e.ticket.reply .done (octet r.scene.val :: octets2 first ++ [octet written])] else []), ?_, rfl, ?_⟩
    · rw [h.tapWrite_taken awake number free few (near rfl), edited _ fun _ => rfl]
      exact congrArg _ (State.endCheckEdited_reply ..)
    · rw [own]
      refine ⟨rfl, fun _ => rfl, fun k => absurd k (by decide),
        fun _ => ⟨rfl, writeTaps_tapRecords (near rfl) e.params count⟩, fun k => absurd k (by decide), ?_,
        others _ _, rfl⟩
      simp only [true_and]
      rfl
  · refine ⟨p.endCheckEdited r (fun _ => Scene.reset) [], ?_, rfl, ?_⟩
    · rw [h.sceneClear_taken awake number free, edited _ fun _ => rfl]
    · rw [own]
      exact ⟨rfl, fun k => absurd rfl k, fun k => absurd k (by decide), fun k => absurd k (by decide),
        fun _ => Scene.reset_isReset, rfl, others _ _, rfl⟩
  · exact absurd rfl edits

end Sys2Proof.Machine
end

section
/-!
PROOFS. Settles O59: GUARD_SET on the guard records of its feeds and on the latch of HOWL_LIMIT (R133, R134, R141,
R185).
-/

namespace Sys2Proof.Machine

/-! ## Parameters -/

/-- R167: two octets are below 65536. -/
theorem at16_lt (p : List Byte) (i : Nat) : at16 p i < 65536 := by
  have high := at8_lt p i
  have low := at8_lt p (i + 1)
  unfold at16
  omega

/-- R133: the upper clamps of the quiet hold and the interval are those of their octets. -/
theorem guardParams_eq (p : List Byte) : guardParams p = {
    enable := at8 p 4 != 0, floorCode := min 1024 (at16 p 5)
    rise := max 2 (min 64 (at8 p 7)), cutStep := max 8 (min 128 (at8 p 8))
    limit := min 512 (at16 p 9), quietHold := max 100 (at16 p 11)
    interval := max 1 (at8 p 13), escalate := at8 p 14 != 0 } := by
  have quiet : min 65535 (at16 p 11) = at16 p 11 := Nat.min_eq_right (Nat.le_of_lt_succ (at16_lt p 11))
  have interval : min 255 (at8 p 13) = at8 p 13 := Nat.min_eq_right (Nat.le_of_lt_succ (at8_lt p 13))
  simp only [guardParams, clamp, quiet, interval]
  rfl

/-! ## One guard record -/

/-- R133: the parameters of a record replaced, its working part kept. -/
def Guard.withParams (q : GuardParams) (g : Guard) : Guard :=
  { g with
    enable := q.enable, floorCode := q.floorCode, rise := q.rise, cutStep := q.cutStep, limit := q.limit
    quietHold := q.quietHold, interval := q.interval, escalate := q.escalate }

/-- R134: the trim is lowered to the limit, and a recovery that it ends returns to WATCH. -/
theorem Guard.limitTo_eq (limit : Nat) (g : Guard) : g.limitTo limit = { g with
    trim := min g.trim limit
    state := if g.state = .recover ∧ limit = 0 ∧ 0 < g.trim then .watch else g.state } := by
  unfold Guard.limitTo
  split
  · rename_i above
    have ends : (limit = 0 ∧ 0 < g.trim) ↔ limit = 0 := and_iff_left_of_imp fun zero => zero ▸ above
    simp only [Nat.min_eq_right above.le, ends]
  · rename_i within
    have stays : ¬(g.state = .recover ∧ limit = 0 ∧ 0 < g.trim) := by omega
    rw [Nat.min_eq_left (Nat.not_lt.1 within), if_neg stays]

/-- R133, R134: a selected record takes the parameters over the working part that the table gives. -/
theorem Guard.configure_eq (g : Guard) (q : GuardParams) : g.configure q = Guard.withParams q
    (if g.enable && q.enable then g.limitTo q.limit else if g.enable || q.enable then g.restart else g) := rfl

section
variable {g : Guard} {q : GuardParams}

/-- R134: a guard turned on or off. -/
theorem Guard.configure_turned (turned : g.enable ≠ q.enable) : g.configure q = g.restart.withParams q := by
  have opposite : q.enable = !g.enable := Bool.eq_not_of_ne turned.symm
  rw [Guard.configure_eq, opposite, Bool.and_not_self, Bool.or_not_self]
  rfl

/-- R134: a guard off before and after. -/
theorem Guard.configure_off (was : g.enable = false) (will : q.enable = false) : g.configure q = g.withParams q := by
  rw [Guard.configure_eq, was, will]
  rfl

/-- R134: a guard on before and after. -/
theorem Guard.configure_on (was : g.enable = true) (will : q.enable = true) :
    g.configure q = (g.limitTo q.limit).withParams q := by
  rw [Guard.configure_eq, was, will]
  rfl

end

/-! ## The whole command -/

/-- R141: a latch leaves the live condition. -/
theorem State.liveHowlLimit_latchIf (b : Bool) (e : Event) (s : State) :
    (s.latchIf b e).liveHowlLimit = s.liveHowlLimit :=
  State.liveHowlLimit_congr (by simp only [State.latchIf_frame])

section
variable (m : BitVec 32) (q : GuardParams) (s : State)

/-- R133: one feed under GUARD_SET. -/
theorem State.setGuards_get (f : Fin 32) : (s.setGuards m q).guards.get f =
    if m.getLsbD f.val then (s.guards.get f).configure q else s.guards.get f := by
  simp only [State.setGuards, State.latchIf_frame]
  exact Bank.get_mapIdx ..

/-- R141: HOWL_LIMIT is latched when the condition is met after the command and was not before it. -/
theorem State.setGuards_latch : (s.setGuards m q).events.latch =
    if s.liveHowlLimit = false ∧ (s.setGuards m q).liveHowlLimit = true
      then s.events.latch ||| Event.word .howlLimit else s.events.latch := by
  simp only [State.setGuards, State.latchIf_events, State.liveHowlLimit_latchIf, Bool.and_eq_true,
    Bool.not_eq_true']
  split
  · rfl
  · exact BitVec.or_zero

/-- R133, R141: GUARD_SET moves the guard records and the latches alone. -/
theorem State.setGuards_eq : s.setGuards m q = { s with
    guards := (s.setGuards m q).guards, events := { s.events with latch := (s.setGuards m q).events.latch } } := by
  simp only [State.setGuards, State.latchIf_eq]

end

/-- Settles O59: the parameters, the working part by its three cases, the latch and the frame. -/
theorem guardSetReplacesParameters : Obligations.GuardSetReplacesParameters := by
  intro s e rest h awake
  let p := s.popQueue rest
  let mask := at32 e.params 0
  let q := guardParams e.params
  have settled := h.posted awake false fun d t => applied (t.setGuards (at32 d 0) (guardParams d))
  rw [State.settle_applied] at settled
  refine ⟨p.setGuards mask q, congrArg _ settled, fun f other => ?_, fun f selected => ?_,
    State.setGuards_latch mask q p, State.setGuards_eq mask q p⟩
  · exact (State.setGuards_get mask q p f).trans (if_neg (other ▸ Bool.false_ne_true))
  · intro old new on limit
    have configured : new = old.configure q := (State.setGuards_get mask q p f).trans (if_pos selected)
    have params : q = _ := guardParams_eq e.params
    have enabled : q.enable = on := congrArg GuardParams.enable params
    rw [configured]
    refine ⟨enabled, congrArg GuardParams.floorCode params, congrArg GuardParams.rise params,
      congrArg GuardParams.cutStep params, congrArg GuardParams.limit params, congrArg GuardParams.quietHold params,
      congrArg GuardParams.interval params, congrArg GuardParams.escalate params, fun turned => ?_,
      fun was will => ?_, fun was will => ?_⟩
    · rw [Guard.configure_turned (enabled ▸ turned)]
      exact ⟨rfl, rfl, rfl, rfl, rfl, rfl, rfl⟩
    · rw [Guard.configure_off was (enabled.trans will)]
      exact ⟨rfl, rfl, rfl, rfl, rfl, rfl, rfl⟩
    · rw [Guard.configure_on was (enabled.trans will), Guard.limitTo_eq]
      exact ⟨rfl, rfl, rfl, rfl, rfl, rfl, rfl⟩

end Sys2Proof.Machine
end

section
/-!
PROOFS. Settles O3: while RST_N is low no command but its rise has an effect, and its fall silences the ports and
releases HOLD_N (R146, R154). Each row asks for RST_N in one of three ways, and each way has its lemma.
-/

namespace Sys2Proof.Machine

section

variable {s : State} (low : s.pins.rstLow = true)
include low

/-- R154: a row of the pins, lines and frames in held reset. -/
theorem State.unlessHeld_low (t : State) : s.unlessHeld t = s := if_pos low

/-- R18, R154: no computation runs in held reset, and so none of its events occurs. -/
theorem State.whileComputing_low (t : State) : s.whileComputing t = s :=
  if_neg (by simp [State.computes, low])

/-- R154: no lane command is offered or taken in held reset. -/
theorem State.laneCommand_low (kind : Byte) (query : Bool) (judge : Entry → State → Verdict) (t : Taking) :
    s.laneCommand kind query judge t = s := if_pos low

theorem State.setHoldPulled_low (b : Bool) : s.setHoldPulled b = { s with pins := ⟨true, b⟩ } := by
  simp [State.setHoldPulled, low]

end

/-- Log 5: the level that others give HOLD_N after command `c`: its operand where it paces a computation, else the
level of before. -/
def State.outsideLevel (s : State) : Instr → Bool
  | .frameOriginate b | .outboundFrameReceive _ b | .syncMissingPeriod _ b => b
  | _ => s.pins.holdPulled

/-- R154: in held reset a command other than the power-on pair leaves the state up to that level. -/
theorem exec_low {c : Instr} {s : State} (low : s.pins.rstLow = true)
    (notRise : ∀ lead a, c ≠ .powerOnReset lead a) (notFall : c ≠ .powerOnResetHeld) :
    exec c s = .next (s.setHoldPulled (s.outsideLevel c)) := by
  cases c with
  | powerOnReset lead a => exact absurd rfl (notRise lead a)
  | powerOnResetHeld => exact absurd rfl notFall
  | frameOriginate b | outboundFrameReceive _ b | syncMissingPeriod _ b =>
    exact congrArg _ (State.unlessHeld_low (s := s.setHoldPulled b) low _)
  | lineActivityAppears _ | lineActivityLost _ | returnFrameReceive _ | discardMarkExpire =>
    exact congrArg _ (State.unlessHeld_low low _)
  | coreShaped _ | checkPass | checkFail | cueFire _ | gateHangExpire _ | crossfadeEnd | quietHoldExpire _
  | recoveryStep _ => exact congrArg _ (State.whileComputing_low low _)
  | badKindCommand kind t =>
    exact congrArg _ ((congrArg (ite _ · s) (State.laneCommand_low low ..)).trans (ite_self s))
  | identify _ | nodeReset _ | quiet _ | wake _ | eventsRead _ | eventsClear _ | eventsMask _ | chainRead _
  | chainSet _ | patternSet _ | patternRead _ | pickupSet _ | pickupRead _ | feedSet _ | feedRead _ | groupSet _
  | groupRead _ | coreShape _ | coreRead _ | sceneHead _ | tapWrite _ | tapRead _ | sceneClear _ | sceneCheck _
  | sceneRead _ | cue _ | cueCancel _ | cueRead _ | guardSet _ | guardRead _ | hold _ | resume _ =>
    exact congrArg _ (State.laneCommand_low low ..)

/-- Settles O3: every other command by `exec_low`; the outputs are gated by RST_N. -/
theorem heldResetStopsEveryCommand : Obligations.HeldResetStopsEveryCommand :=
  ⟨fun c s low notRise notFall =>
    ⟨s.outsideLevel c, (exec_low low notRise notFall).trans (congrArg _ (State.setHoldPulled_low low _))⟩,
  fun _ => ⟨_, rfl, rfl, rfl, rfl, rfl, rfl, rfl, rfl⟩⟩

end Sys2Proof.Machine
end

section
/-!
PROOFS. Settles O5: NODE_RESET, and WAKE in QUIET, reset every block but the Chain Interface; WAKE elsewhere has no
effect (R153, R155, R162).
-/

namespace Sys2Proof.Machine

/-- R155, R162: a row of NODE_RESET or WAKE takes its entry with or without a FREE reply entry, and replies nothing. -/
theorem State.laneCommand_reset {s : State} {e : Entry} {rest : List Entry} {kind : Byte}
    (high : s.pins.rstLow = false) (head : s.lane.queue = e :: rest) (row : e.kind = kind)
    (resets : kindIsReset kind = true) (act : State → State) :
    s.laneCommand kind false (fun _ u => applied (act u)) .queued = act (s.popQueue rest) := by
  subst row
  have taken : s.mayTake e = true := by simp [State.mayTake, resets]
  rw [State.laneCommand_queued head high taken, State.carryOut_posted, State.settle_applied]

/-- R155: the blocks that a node reset resets stand as after power-on. -/
theorem State.nodeReset_blocksReset (s : State) : s.nodeReset.BlocksReset := State.powerOn_blocksReset false 0

/-- R155: what a node reset leaves, whatever entry the Command Unit took for it. -/
theorem State.nodeResetTo_popQueue (s : State) (rest : List Entry) : s.NodeResetTo (s.popQueue rest).nodeReset :=
  ⟨rfl, rfl, rfl, State.nodeReset_blocksReset _, rfl, Bool.and_false _⟩

/-- R153: WAKE in QUIET is a node reset. -/
theorem State.wake_quiet {s : State} (quiet : s.hold.condition = .quiet) : s.wake = s.nodeReset := if_pos quiet

/-- R153: WAKE in RUNNING or ISOLATED has no effect. -/
theorem State.wake_awake {s : State} (awake : s.hold.condition ≠ .quiet) : s.wake = s := if_neg awake

/-- Settles O5: the row takes its entry (`State.laneCommand_reset`), then resets, or for WAKE outside QUIET does no
more. -/
theorem nodeResetAndWakeReset : Obligations.NodeResetAndWakeReset := by
  intro s e rest high head
  have resets (row : e.kind = 2) : exec (.nodeReset .queued) s = .next (s.popQueue rest).nodeReset :=
    congrArg _ (State.laneCommand_reset high head row rfl State.nodeReset)
  have wakes (row : e.kind = 4) : exec (.wake .queued) s = .next (s.popQueue rest).wake :=
    congrArg _ (State.laneCommand_reset high head row rfl State.wake)
  refine ⟨fun row => ?_, fun row quiet => ?_, fun row awake => ?_⟩
  · exact ⟨_, resets row, s.nodeResetTo_popQueue rest⟩
  · have reset : (s.popQueue rest).wake = (s.popQueue rest).nodeReset := State.wake_quiet quiet
    exact ⟨_, (wakes row).trans (congrArg _ reset), s.nodeResetTo_popQueue rest⟩
  · have still : (s.popQueue rest).wake = s.popQueue rest := State.wake_awake awake
    exact (wakes row).trans (congrArg _ still)

end Sys2Proof.Machine
end

section
/-!
PROOFS. The Lane Controller's law in its four parts (R156, R158, R161, R163), and what the operations on the queues, the
contexts and the read record do to each.
-/

namespace Sys2Proof.Machine

/-! ## The parts of the law -/

/-- R161: the command queue and its BACKPRESSURE flag. -/
def Lane.QueueLawful (l : Lane) : Prop :=
  l.queue.length ≤ 8 ∧ (6 ≤ l.queue.length → l.backpressure = true) ∧ (l.backpressure = true → 4 ≤ l.queue.length)

/-- R163: the reply entries, `n` of them RESERVED, and the transmission. -/
def Lane.RepliesLawful (n : Nat) (l : Lane) : Prop :=
  l.ready.length + n ≤ 4 ∧ (0 < l.sent → ∃ r ∈ l.ready.head?, l.sent < r.segments)

/-- R158: the contexts of a part at address `a`. -/
def Lane.ContextsLawful (a : Fin 16) (l : Lane) : Prop := ∀ i, ∀ m ∈ l.contexts.get i, i ≠ a ∧ m.Lawful i

/-- R156: the read record. -/
def Lane.RecordLawful (l : Lane) : Prop := ∀ i, ∀ m ∈ l.record.get i, turnOf m.frame = i

theorem State.laneLaw_iff (s : State) : s.LaneLaw ↔ s.lane.QueueLawful ∧ s.lane.RepliesLawful s.reservedReplies ∧
    s.lane.ContextsLawful s.chain.address ∧ s.lane.RecordLawful := by
  simp only [State.LaneLaw, Lane.QueueLawful, Lane.RepliesLawful, Lane.ContextsLawful, Lane.RecordLawful, and_assoc]

/-- R163: no check runs, so no reply entry is RESERVED. -/
theorem State.reservedReplies_idle {s : State} (h : s.check = none) : s.reservedReplies = 0 := by
  simp [State.reservedReplies, h]

/-- R163: the running check's RESERVED entry, if it has one. -/
theorem State.reservedReplies_running {s : State} {c : CheckRun} (h : s.check = some c) :
    s.reservedReplies = c.replyTo.toList.length := by
  simp only [State.reservedReplies, h]
  cases c.replyTo <;> rfl

theorem State.reservedReplies_congr {s t : State} (h : t.check = s.check) : t.reservedReplies = s.reservedReplies := by
  unfold State.reservedReplies
  rw [h]

/-! ## The parts, operation by operation -/

/-- R161: an entry added sets BACKPRESSURE at 6. -/
theorem Lane.QueueLawful.add {l : Lane} (h : l.QueueLawful) (room : l.queue.length < 8) (e : Entry) (b : Bool) :
    { l with queue := l.queue ++ [e], lossPending := b
             backpressure := pressureAdded (l.queue.length + 1) l.backpressure : Lane }.QueueLawful := by
  obtain ⟨few, sets, clears⟩ := h
  simp only [Lane.QueueLawful, List.length_append, List.length_singleton, pressureAdded_eq]
  refine ⟨by omega, fun many => if_pos many, fun set => ?_⟩
  split at set
  · omega
  · have := clears set
    omega

/-- R161: the oldest entry taken clears BACKPRESSURE at 3. -/
theorem Lane.QueueLawful.take {l : Lane} (h : l.QueueLawful) {e : Entry} {rest : List Entry}
    (head : l.queue = e :: rest) :
    { l with queue := rest, backpressure := pressureTaken rest.length l.backpressure : Lane }.QueueLawful := by
  obtain ⟨few, sets, clears⟩ := h
  simp only [head, List.length_cons] at few sets clears
  simp only [Lane.QueueLawful, pressureTaken_eq]
  refine ⟨by omega, fun many => ?_, fun set => ?_⟩
  · rw [if_neg (by omega)]
    exact sets (by omega)
  · split at set
    · cases set
    · omega

/-- R163: replies become READY behind those that are. -/
theorem Lane.RepliesLawful.append {l : Lane} {n m : Nat} (h : l.RepliesLawful n) {more : List Reply}
    (fit : more.length + m ≤ n ∨ l.ready.length + more.length + m ≤ 4) :
    { l with ready := l.ready ++ more : Lane }.RepliesLawful m := by
  obtain ⟨few, within⟩ := h
  refine ⟨?_, fun sending => ?_⟩
  · rw [List.length_append]
    omega
  · obtain ⟨r, head, short⟩ := within sending
    exact ⟨r, by simp [List.head?_append, Option.mem_def.1 head], short⟩

/-- R163, R164: no transmission stands in a part whose READY replies are among these. -/
theorem Lane.RepliesLawful.rest {l : Lane} {n : Nat} (h : l.RepliesLawful n) {ready : List Reply}
    (fewer : ready.length ≤ l.ready.length) : { l with ready := ready, sent := 0 : Lane }.RepliesLawful n :=
  ⟨(Nat.add_le_add_right fewer n).trans h.1, fun sending => absurd sending (lt_irrefl 0)⟩

/-- R158: a context that becomes IDLE or takes a lawful message. -/
theorem Lane.ContextsLawful.set {l : Lane} {a : Fin 16} (h : l.ContextsLawful a) {i : Fin 16} {m : Option Assembly}
    (lawful : ∀ x ∈ m, i ≠ a ∧ x.Lawful i) : { l with contexts := l.contexts.set i m : Lane }.ContextsLawful a := by
  intro j x hx
  by_cases hj : j = i
  · subst hj
    rw [Bank.get_set_self] at hx
    exact lawful x hx
  · rw [Bank.get_set_of_ne _ hj] at hx
    exact h j x hx

/-- R156: a frame's entry stands at its place. -/
theorem Lane.RecordLawful.set {l : Lane} (h : l.RecordLawful) (f : FrameNo) (b : Bool) :
    { l with record := l.record.set (turnOf f) (some ⟨f, b⟩) : Lane }.RecordLawful := by
  intro j x hx
  by_cases hj : j = turnOf f
  · subst hj
    rw [Bank.get_set_self] at hx
    obtain rfl := Option.some.inj hx
    rfl
  · rw [Bank.get_set_of_ne _ hj] at hx
    exact h j x hx

/-! ## The law, operation by operation -/

/-- What the lane's law reads. -/
def State.laneView (s : State) : Lane × Option CheckRun × Fin 16 := (s.lane, s.check, s.chain.address)

theorem State.LaneLaw.reads {s t : State} (h : s.LaneLaw) (same : t.laneView = s.laneView) : t.LaneLaw := by
  simp only [State.laneView, Prod.mk.injEq] at same
  obtain ⟨lane, check, address⟩ := same
  rw [State.laneLaw_iff] at h ⊢
  rwa [lane, State.reservedReplies_congr check, address]

theorem State.LaneLaw.latch {s : State} (h : s.LaneLaw) (e : Event) : (s.latch e).LaneLaw := h.reads rfl

theorem State.LaneLaw.offer {s : State} (h : s.LaneLaw) (i : Fin 16) (k t : Byte) (p : List Byte) (b : Bool) :
    (s.offer i k t p b).LaneLaw := by
  rcases s.offer_cases i k t p b with ⟨room, e⟩ | ⟨-, e⟩ <;> rw [e]
  · obtain ⟨queue, replies, contexts, record⟩ := s.laneLaw_iff.1 h
    exact (State.laneLaw_iff _).2 ⟨queue.add room _ _, replies, contexts, record⟩
  · exact h

theorem State.LaneLaw.popQueue {s : State} (h : s.LaneLaw) {e : Entry} {rest : List Entry}
    (head : s.lane.queue = e :: rest) : (s.popQueue rest).LaneLaw := by
  obtain ⟨queue, replies, contexts, record⟩ := s.laneLaw_iff.1 h
  exact (State.laneLaw_iff _).2 ⟨queue.take head, replies, contexts, record⟩

/-- R163: a FREE entry becomes READY. -/
theorem State.LaneLaw.pushReply {s : State} (h : s.LaneLaw) (free : 0 < s.freeReplies) (k : Ticket) (st : Status)
    (d : List Byte) : (s.pushReply k st d).LaneLaw := by
  obtain ⟨queue, replies, contexts, record⟩ := s.laneLaw_iff.1 h
  have fit : s.lane.ready.length + 1 + s.reservedReplies ≤ 4 := by
    unfold State.freeReplies at free
    omega
  exact (State.laneLaw_iff _).2 ⟨queue, replies.append (.inr fit), contexts, record⟩

theorem State.LaneLaw.setContext {s : State} (h : s.LaneLaw) {i : Fin 16} {m : Option Assembly}
    (lawful : ∀ x ∈ m, i ≠ s.chain.address ∧ x.Lawful i) : (s.setContext i m).LaneLaw := by
  obtain ⟨queue, replies, contexts, record⟩ := s.laneLaw_iff.1 h
  exact (State.laneLaw_iff _).2 ⟨queue, replies, contexts.set lawful, record⟩

theorem State.LaneLaw.breakMessage {s : State} (h : s.LaneLaw) (i : Fin 16) : (s.breakMessage i).LaneLaw :=
  (h.setContext (i := i) (m := none) nofun).reads rfl

theorem State.LaneLaw.setRecord {s : State} (h : s.LaneLaw) (f : FrameNo) (b : Bool) : (s.setRecord f b).LaneLaw := by
  obtain ⟨queue, replies, contexts, record⟩ := s.laneLaw_iff.1 h
  exact (State.laneLaw_iff _).2 ⟨queue, replies, contexts, record.set f b⟩

/-- R164, R165: a transmission that ends, is cut or is abandoned. -/
theorem State.LaneLaw.rest {s : State} (h : s.LaneLaw) {ready : List Reply}
    (fewer : ready.length ≤ s.lane.ready.length) :
    { s with lane := { s.lane with ready := ready, sent := 0 } : State }.LaneLaw := by
  obtain ⟨queue, replies, contexts, record⟩ := s.laneLaw_iff.1 h
  exact (State.laneLaw_iff _).2 ⟨queue, replies.rest fewer, contexts, record⟩

/-! ## Reassembly (R156 to R160) -/

theorem State.LaneLaw.completeMessage {s : State} (h : s.LaneLaw) (i : Fin 16) (o : List Byte) (n d : Nat) (b : Bool) :
    (s.completeMessage i o n d b).LaneLaw := by
  rcases s.completeMessage_cases i o n d b with ⟨-, e⟩ | ⟨-, e⟩ | e <;> rw [e]
  · exact h.offer ..
  · exact h
  · exact h.reads rfl

/-- R156: the frame 16 later is of the same turn. -/
theorem turnOf_add_sixteen (f : FrameNo) : turnOf (f + 16) = turnOf f := by
  refine Fin.ext ?_
  simp only [turnOf]
  bv_omega

/-- R158: a message begun is lawful. -/
theorem Assembly.lawful_first {f : FrameNo} (p : Bank 7 Byte) {n : Nat} (short : n ≤ 441) (b : Bool) :
    Assembly.Lawful (turnOf f) ⟨p.items, 1, n, b, f + 16⟩ :=
  ⟨p.size, le_rfl, Nat.one_le_ofNat, by unfold segmentsNeeded; dsimp only; omega, short, turnOf_add_sixteen f⟩

/-- R159: so is one that goes on. -/
theorem Assembly.Lawful.more {i : Fin 16} {a : Assembly} (h : a.Lawful i) {f : FrameNo} (at_f : turnOf f = i)
    (below : a.segments < segmentsNeeded a.declared ∧ a.segments < 64) (p : Bank 7 Byte) :
    Assembly.Lawful i { a with octets := a.octets ++ p.items, segments := a.segments + 1, expected := f + 16 } := by
  obtain ⟨length, -, -, -, short, -⟩ := h
  refine ⟨?_, Nat.le_add_left .., below.2, below.1, short, (turnOf_add_sixteen f).trans at_f⟩
  rw [List.length_append, length, p.size]
  exact (Nat.mul_succ ..).symm

theorem State.LaneLaw.idleTakes {s : State} (h : s.LaneLaw) {f : FrameNo} (other : turnOf f ≠ s.chain.address)
    (g : Segment) : (s.idleTakes (turnOf f) f g).LaneLaw := by
  unfold State.idleTakes
  cases markOf g.mark
  case only =>
    dsimp only
    split
    · exact h.completeMessage ..
    · exact h
  case first =>
    dsimp only
    split
    · split
      · exact h.breakMessage _
      · rename_i short
        refine h.setContext fun x hx => ?_
        obtain rfl := Option.some.inj hx
        exact ⟨other, Assembly.lawful_first g.payload (Nat.not_lt.1 short) _⟩
    · exact h
  all_goals exact h

theorem State.LaneLaw.assemblyTakes {s : State} (h : s.LaneLaw) {f : FrameNo} (other : turnOf f ≠ s.chain.address)
    {a : Assembly} (lawful : a.Lawful (turnOf f)) (g : Segment) : (s.assemblyTakes (turnOf f) a f g).LaneLaw := by
  have broken : ((s.breakMessage (turnOf f)).idleTakes (turnOf f) f g).LaneLaw := (h.breakMessage _).idleTakes other g
  unfold State.assemblyTakes
  split
  · exact broken
  · cases markOf g.mark
    case more =>
      dsimp only
      split
      · refine h.setContext fun x hx => ?_
        obtain rfl := Option.some.inj hx
        exact ⟨other, lawful.more rfl ‹_› g.payload⟩
      · exact broken
    case last => exact (h.setContext (m := none) nofun).completeMessage ..
    all_goals exact broken

theorem State.LaneLaw.takeSegment {s : State} (h : s.LaneLaw) (f : FrameNo) (g : Segment) :
    (s.takeSegment f g).LaneLaw := by
  unfold State.takeSegment
  split
  · exact h
  · split
    · exact h.idleTakes ‹_› g
    · rename_i a assembling
      obtain ⟨-, -, contexts, -⟩ := s.laneLaw_iff.1 h
      exact h.assemblyTakes ‹_› (contexts _ a assembling).2 g

theorem State.LaneLaw.readSegment {s : State} (h : s.LaneLaw) (f : FrameNo) (g : Segment) :
    (s.readSegment f g).LaneLaw := by
  unfold State.readSegment
  split
  · exact h
  · exact (h.setRecord f true).takeSegment f g

theorem State.LaneLaw.takeLoss {s : State} (h : s.LaneLaw) (f : FrameNo) : (s.takeLoss f).LaneLaw := by
  have marked := h.setRecord f false
  unfold State.takeLoss State.loseSegment
  split
  · exact h
  · split
    · exact marked
    · split
      · exact marked
      · exact marked.breakMessage _

theorem State.LaneLaw.breakContexts {s : State} (h : s.LaneLaw) : s.breakContexts.LaneLaw := by
  obtain ⟨queue, replies, -, record⟩ := s.laneLaw_iff.1 h
  rw [State.breakContexts_eq]
  refine (State.laneLaw_iff _).2 ⟨queue, replies, fun i m hm => ?_, record⟩
  rw [show (Bank.fill 16 (none : Option Assembly)).get i = none from Bank.get_fill ..] at hm
  cases hm

/-! ## The part's own turns (R163 to R165) -/

theorem State.LaneLaw.dropReply {s : State} (h : s.LaneLaw) : s.dropReply.LaneLaw :=
  h.rest (by rw [List.length_drop]; exact Nat.sub_le ..)

theorem State.LaneLaw.missTurn {s : State} (h : s.LaneLaw) (n : FrameNo) : (s.missTurn n).LaneLaw := by
  unfold State.missTurn
  split
  · exact h.rest le_rfl
  · exact h

theorem State.LaneLaw.advanceReply {s : State} (h : s.LaneLaw) : s.advanceReply.LaneLaw := by
  rcases s.advanceReply_cases with ⟨-, e⟩ | ⟨r, rest, -, -, e⟩ | ⟨r, rest, ready, short, e⟩ <;> rw [e]
  · exact h
  · exact h.dropReply
  · obtain ⟨queue, ⟨few, -⟩, contexts, record⟩ := s.laneLaw_iff.1 h
    exact (State.laneLaw_iff _).2 ⟨queue, ⟨few, fun _ => ⟨r, by simp [ready], short⟩⟩, contexts, record⟩

theorem State.LaneLaw.afterWrites {s : State} (h : s.LaneLaw) (f : Frame) : (s.afterWrites f).LaneLaw := by
  unfold State.afterWrites
  split
  · rename_i clash
    rw [State.noteClash, if_pos clash, State.abandonReply]
    split
    · exact (h.latch _).dropReply
    · exact h.latch _
  · split
    · exact h.advanceReply
    · exact h

end Sys2Proof.Machine
end

section
/-!
PROOFS. What leaves the lane as it stands, but for RESERVED reply entries that become READY (R110, R111, R163), and the
lane's law at the taking of a command (R162).
-/

namespace Sys2Proof.Machine

/-- R163: `t` has the lane of `s`, but for RESERVED entries that have become READY. -/
def State.LaneStands (s t : State) : Prop :=
  ∃ more : List Reply, t.lane = { s.lane with ready := s.lane.ready ++ more } ∧
    more.length + t.reservedReplies ≤ s.reservedReplies ∧ t.chain.address = s.chain.address

theorem State.LaneStands.of_view {s t : State} (same : t.laneView = s.laneView) : s.LaneStands t := by
  simp only [State.laneView, Prod.mk.injEq] at same
  obtain ⟨lane, check, address⟩ := same
  exact ⟨[], by rw [lane, List.append_nil], by simp [State.reservedReplies_congr check], address⟩

theorem State.LaneStands.refl (s : State) : s.LaneStands s := .of_view rfl

theorem State.LaneStands.trans {s t u : State} (h : s.LaneStands t) (k : t.LaneStands u) : s.LaneStands u := by
  obtain ⟨more, lane, fewer, address⟩ := h
  obtain ⟨more', lane', fewer', address'⟩ := k
  refine ⟨more ++ more', by rw [lane', lane, List.append_assoc], ?_, address'.trans address⟩
  rw [List.length_append]
  omega

/-- The same, followed by what the lane's law does not read. -/
theorem State.LaneStands.then_view {s t u : State} (h : s.LaneStands t) (same : u.laneView = t.laneView) :
    s.LaneStands u := h.trans (.of_view same)

theorem State.LaneLaw.stands {s t : State} (h : s.LaneLaw) (k : s.LaneStands t) : t.LaneLaw := by
  obtain ⟨queue, replies, contexts, record⟩ := s.laneLaw_iff.1 h
  obtain ⟨more, lane, fewer, address⟩ := k
  rw [State.laneLaw_iff, lane, address]
  exact ⟨queue, replies.append (.inl fewer), contexts, record⟩

/-- R163: no FREE entry is used. -/
theorem State.LaneStands.freeReplies_le {s t : State} (h : s.LaneStands t) : s.freeReplies ≤ t.freeReplies := by
  obtain ⟨more, lane, fewer, -⟩ := h
  simp only [State.freeReplies, lane, List.length_append]
  omega

/-! ## The Check Unit -/

/-- R110, R111: the running check ends, with its reply in its RESERVED entry. -/
theorem State.laneStands_endCheck {s t : State} {c : CheckRun} (runs : s.check = some c) (idle : t.check = none)
    (reply : Ticket → Reply)
    (lane : t.lane = { s.lane with ready := s.lane.ready ++ c.replyTo.toList.map reply })
    (chain : t.chain = s.chain) : s.LaneStands t :=
  ⟨_, lane, by rw [List.length_map, State.reservedReplies_idle idle, State.reservedReplies_running runs]; rfl,
    by rw [chain]⟩

theorem State.laneStands_endCheckPass {s : State} {c : CheckRun} (runs : s.check = some c) :
    s.LaneStands (s.endCheckPass c) := by
  rw [State.endCheckPass_eq]
  exact State.laneStands_endCheck runs rfl _ rfl rfl

theorem State.laneStands_endCheckFail {s : State} {c : CheckRun} (runs : s.check = some c) (i : Nat) (r : CheckReason) :
    s.LaneStands (s.endCheckFail c i r) := by
  rw [State.endCheckFail_eq]
  exact State.laneStands_endCheck runs rfl _ rfl rfl

theorem State.laneStands_abortCheck (s : State) : s.LaneStands s.abortCheck := by
  obtain ⟨idle, lane, -⟩ := s.abortCheck_leaves
  cases runs : s.check with
  | none =>
    refine .of_view ?_
    simp [State.laneView, idle, lane, State.abortReplies, runs]
  | some c =>
    refine State.laneStands_endCheck runs idle (·.reply .aborted [octet c.scene.val]) ?_ s.abortCheck_frame.2.1
    rw [lane, State.abortReplies, runs]

theorem State.laneStands_abortCheckOf (i : Fin 16) (s : State) : s.LaneStands (s.abortCheckOf i) := by
  unfold State.abortCheckOf
  split
  · exact .refl s
  · split
    · exact s.laneStands_abortCheck
    · exact .refl s

theorem State.laneStands_shapeCore (c : Fin 4) (lengths : Bank 8 Nat) (s : State) :
    s.LaneStands (s.shapeCore c lengths) := by
  have aborted : s.LaneStands (s.abortCheckUsing c) := by
    rcases s.abortCheckUsing_cases c with ⟨_, _, _, e⟩ | ⟨_, e⟩ <;> rw [e]
    · exact s.laneStands_abortCheck
    · exact .refl s
  exact aborted.then_view rfl

theorem State.laneStands_editScene (i : Fin 16) (f : Scene → Scene) (s : State) : s.LaneStands (s.editScene i f) :=
  (s.laneStands_abortCheckOf i).then_view rfl

theorem State.laneStands_enterQuiet (s : State) : s.LaneStands s.enterQuiet := by
  refine s.laneStands_abortCheck.then_view ?_
  simp [State.laneView, State.enterQuiet]

/-- R108: a check's step keeps its entry RESERVED or ends the check. -/
theorem State.laneStands_advanceCheck (s : State) : s.LaneStands s.advanceCheck := by
  cases runs : s.check with
  | none =>
    have still : s.advanceCheck = s := by simp [State.advanceCheck, runs]
    rw [still]
    exact .refl s
  | some c =>
    cases found : examine s.cores (s.scenes.get c.scene) c.next with
    | passed =>
      rw [State.advanceCheck_passes runs found]
      exact State.laneStands_endCheckPass runs
    | failed i why =>
      rw [State.advanceCheck_fails runs found]
      exact State.laneStands_endCheckFail runs i why
    | goesOn n =>
      rw [State.advanceCheck_goesOn runs found]
      refine ⟨[], by rw [List.append_nil], ?_, rfl⟩
      rw [State.reservedReplies_running runs]
      exact (Nat.zero_add _).trans_le (State.reservedReplies_running (c := { c with next := n }) rfl).le

/-- R18: a computation moves the lane by its check's step alone. -/
theorem State.laneStands_compute (k : FrameNo) (s : State) : s.LaneStands (s.compute k) := by
  have begun : s.LaneStands (s.beginComputation k) := .of_view (by simp [State.laneView])
  obtain ⟨check, -, lane⟩ := s.compute_check k
  refine (begun.trans (State.laneStands_advanceCheck _)).then_view ?_
  simp [State.laneView, check, lane]

/-! ## The taking of a command (R162) -/

/-- R162: a reply to `e` has its entry: none is due for a broadcast, and a unicast command finds one FREE. -/
def State.HasRoom (s : State) (e : Entry) : Prop := e.broadcast = true ∨ 0 < s.freeReplies

/-- R162, R163: the state a verdict leaves has the lane's law, and its reply has its entry. -/
def Verdict.FitsLane (e : Entry) (s : State) : Verdict → Prop
  | .refused _ => s.HasRoom e
  | .taken t r => t.LaneLaw ∧ (r.isSome = true → t.HasRoom e)

theorem State.LaneLaw.settle {s : State} {e : Entry} (h : s.LaneLaw) {v : Verdict} (fits : v.FitsLane e s) :
    (s.settle e v).LaneLaw := by
  cases v with
  | refused st =>
    rw [State.settle_refused]
    split
    · exact h.latch _
    · rename_i unicast
      exact h.pushReply (fits.resolve_left unicast) _ _ _
  | taken t r =>
    obtain ⟨law, room⟩ := fits
    cases r with
    | none => exact law
    | some r =>
      simp only [State.settle]
      split
      · exact law
      · rename_i unicast
        exact law.pushReply ((room rfl).resolve_left unicast) _ _ _

/-- R162: what a judgement owes the lane's law: that it fits, for an entry of its kind that may be taken. -/
def KeepsLane (kind : Byte) (judge : Entry → State → Verdict) : Prop :=
  ∀ (e : Entry) (s : State), e.kind = kind → s.mayTake e = true → s.LaneLaw → (judge e s).FitsLane e s

theorem State.LaneLaw.takeHead {s : State} {kind : Byte} {query : Bool} {judge : Entry → State → Verdict}
    (h : s.LaneLaw) (keeps : KeepsLane kind judge) : (s.takeHead kind query judge).LaneLaw := by
  rcases s.takeHead_cases kind query judge with e | ⟨e, rest, head, row, taken, k⟩
  · rwa [e]
  · have popped : (s.popQueue rest).LaneLaw := h.popQueue head
    rw [k]
    rcases State.carryOut_cases query judge e (s.popQueue rest) with ⟨-, -, c⟩ | ⟨-, c⟩ <;> rw [c]
    · exact popped.latch _
    · exact popped.settle (keeps e _ row taken popped)

/-- Log 3: a lane command row is an offer, a taking, or both. -/
theorem State.LaneLaw.laneCommand {s : State} {kind : Byte} {query : Bool} {judge : Entry → State → Verdict}
    {t : Taking} (h : s.LaneLaw) (keeps : KeepsLane kind judge) : (s.laneCommand kind query judge t).LaneLaw := by
  unfold State.laneCommand
  split
  · exact h
  · cases t with
    | queued => exact h.takeHead keeps
    | arriving m =>
      dsimp only
      split
      · exact (h.offer ..).takeHead keeps
      · exact h.offer ..

/-- R162: a kind other than NODE_RESET and WAKE is taken with room for its reply alone. -/
theorem State.hasRoom_of_mayTake {s : State} {e : Entry} (ordinary : kindIsReset e.kind = false)
    (taken : s.mayTake e = true) : s.HasRoom e := by
  simpa [State.mayTake, ordinary, State.HasRoom] using taken

/-- R162: a judgement that leaves the lane as it stands fits. -/
theorem keepsLane_of_stands {kind : Byte} (ordinary : kindIsReset kind = false) {judge : Entry → State → Verdict}
    (stands : ∀ e u, (judge e u).Leaves u.LaneStands) : KeepsLane kind judge := by
  rintro e s rfl taken law
  have room := State.hasRoom_of_mayTake ordinary taken
  have left := stands e s
  cases hv : judge e s with
  | refused st => exact room
  | taken t r =>
    rw [hv] at left
    have left : s.LaneStands t := left
    exact ⟨law.stands left, fun _ => room.imp_right fun free => free.trans_le left.freeReplies_le⟩

/-- R107: SCENE_CHECK turns a FREE entry into the RESERVED one, or ends as the others do. -/
theorem keepsLane_sceneCheck : KeepsLane 36 fun e u => judged false 1 (judgeSceneCheck e) e u := by
  rintro e s row taken law
  have room := State.hasRoom_of_mayTake (by rw [row]; rfl) taken
  have checks (i : Fin 16) (idle : s.check = none) : (startCheck e i s).FitsLane e s := by
    unfold startCheck
    split
    · exact ⟨law.reads rfl, fun _ => room⟩
    · obtain ⟨queue, ⟨few, within⟩, contexts, record⟩ := s.laneLaw_iff.1 law
      refine ⟨(State.laneLaw_iff _).2 ⟨queue, ⟨?_, within⟩, contexts, record⟩, nofun⟩
      rw [State.reservedReplies_running rfl]
      rcases room with broadcast | free
      · rw [if_pos broadcast]
        exact (Nat.le_add_right ..).trans few
      · unfold State.freeReplies at free
        have one : (if e.broadcast then none else some e.ticket : Option Ticket).toList.length ≤ 1 := by
          split <;> exact Nat.le_of_ble_eq_true rfl
        dsimp only
        omega
  rcases judged_cases false 1 (judgeSceneCheck e) e s with ⟨-, -, h⟩ | ⟨-, -, h⟩ | ⟨-, -, h⟩ <;> dsimp only <;> rw [h]
  · exact room
  · exact room
  · unfold judgeSceneCheck onUnlocked
    split
    · exact room
    · dsimp only
      split
      · exact room
      · split
        · exact room
        · split
          · exact room
          · rename_i running
            exact checks _ (by simpa using running)

end Sys2Proof.Machine
end

section
/-!
PROOFS. Settles O10: every step keeps the lane's law (R156 to R165).
-/

namespace Sys2Proof.Machine

variable {s : State}

/-! ## The frame rows -/

theorem State.LaneLaw.paceFrame (h : s.LaneLaw) (n : FrameNo) : (s.paceFrame n).LaneLaw := by
  have counted : (s.countFrame n).LaneLaw :=
    State.LaneLaw.takeLoss (s := { s with chain := s.chain.countHandled n }) (h.reads rfl) (n - 8)
  unfold State.paceFrame
  split
  · exact (counted.stands (State.laneStands_compute (n - 8) _)).reads rfl
  · exact counted.reads rfl

theorem State.LaneLaw.readReturn (h : s.LaneLaw) (f : Frame) : (s.readReturn f).LaneLaw := by
  have read (t : State) (law : t.LaneLaw) : ((t.readSegment f.number f.segment).checkPattern f).LaneLaw := by
    refine (law.readSegment f.number f.segment).reads ?_
    simp only [State.laneView, State.checkPattern_frame]
  unfold State.readReturn
  dsimp only
  split
  · exact read _ (h.reads rfl)
  · exact read _ h

theorem State.LaneLaw.handleGood (h : s.LaneLaw) (f : Frame) : (s.handleGood f).LaneLaw := by
  have written := (h.paceFrame f.number).afterWrites f
  unfold State.handleGood
  dsimp only
  split
  · exact State.LaneLaw.readReturn (written.reads (by simp [State.laneView])) _
  · exact written.reads (by simp [State.laneView])

theorem State.LaneLaw.handleBad (h : s.LaneLaw) (n : FrameNo) (o : Option (List Byte)) : (s.handleBad n o).LaneLaw := by
  have missed := (h.paceFrame n).missTurn n
  unfold State.handleBad
  dsimp only
  split <;> exact missed.reads rfl

/-- R15, R159: Port U leaves LOCKED: the reply starts again, the contexts are broken. -/
theorem State.LaneLaw.unlockU (h : s.LaneLaw) (p : PortRx) : (s.unlockU p).LaneLaw := by
  have unlocking : (s.unlocking p).LaneLaw := State.LaneLaw.reads (h.rest le_rfl) rfl
  rw [State.unlockU_eq]
  exact State.LaneLaw.breakContexts (unlocking.reads (by simp [State.laneView]))

theorem State.LaneLaw.goodOutbound (h : s.LaneLaw) (f : Frame) (o : List Byte) : (s.goodOutbound f o).LaneLaw := by
  unfold State.goodOutbound
  dsimp only
  split
  · exact (State.LaneLaw.handleGood (h.reads (by simp [State.laneView])) f).reads rfl
  · split
    · exact (State.LaneLaw.handleGood (s := s.lockU _) (h.reads rfl) f).reads rfl
    · exact h.reads rfl

theorem State.LaneLaw.badOutbound (h : s.LaneLaw) (o : Option (List Byte)) : (s.badOutbound o).LaneLaw := by
  have counted : s.countBadU.LaneLaw := h.reads rfl
  unfold State.badOutbound
  dsimp only
  split
  · split
    · exact (State.LaneLaw.handleBad (s := { s.countBadU with
        chain := { s.countBadU.chain with portU := s.chain.portU.judgeBad s.chain.lockB } }) (counted.reads rfl) _
        o).reads rfl
    · exact (counted.unlockU _).reads rfl
  · exact counted.reads rfl

theorem State.LaneLaw.setPortD (h : s.LaneLaw) (p : PortRx) : (s.setPortD p).LaneLaw :=
  h.reads (by simp [State.laneView])

theorem State.LaneLaw.goodReturn (h : s.LaneLaw) (f : Frame) (o : List Byte) : (s.goodReturn f o).LaneLaw := by
  have passes (t : State) (law : t.LaneLaw) : (t.passGoodReturn f o).LaneLaw := by
    unfold State.passGoodReturn
    split
    · exact law.reads rfl
    · exact law
    · split
      · exact law.reads rfl
      · exact (State.LaneLaw.readReturn (s := { t with chain := { t.chain with discard := false } }) law f).reads rfl
  exact passes _ (h.setPortD _)

theorem State.LaneLaw.badReturn (h : s.LaneLaw) (o : Option (List Byte)) : (s.badReturn o).LaneLaw := by
  have passes (t : State) (law : t.LaneLaw) : (t.passBadReturn o).LaneLaw := by
    unfold State.passBadReturn
    split <;> exact law
  exact passes _ (State.LaneLaw.setPortD (s := s.countBadD) (h.reads rfl) _)

theorem State.LaneLaw.loseU (h : s.LaneLaw) : s.loseU.LaneLaw := by
  unfold State.loseU
  split
  · exact h
  · split
    · exact h
    · exact h.reads rfl
    · exact h.unlockU _

theorem State.LaneLaw.loseD (h : s.LaneLaw) : s.loseD.LaneLaw := by
  unfold State.loseD
  split
  · exact h
  all_goals exact h.reads (by simp [State.laneView])

/-- R155: a node reset leaves the lane as power-on does. -/
theorem State.laneLaw_nodeReset (s : State) : s.nodeReset.LaneLaw :=
  (State.powerOn_laneLaw false s.chain.address).reads rfl

/-! ## Every command -/

/-- The rows of the pins, the lines and the frames, and the lane commands that reset the part or set its condition. -/
theorem State.LaneLaw.frameRows {c : Instr} {t : State} (h : s.LaneLaw) (moves : movesView c = true)
    (he : exec c s = .next t) : t.LaneLaw := by
  cases c with
  | powerOnReset lead a =>
    cases he
    exact (State.powerOn_laneLaw lead a).reads rfl
  | powerOnResetHeld =>
    cases he
    exact h.reads rfl
  | lineActivityAppears p =>
    cases he
    refine State.unlessHeld_keeps h ?_
    cases p with
    | U =>
      dsimp only
      split
      · exact h
      · exact h.reads (by unfold Chain.appearU; split <;> rfl)
    | D => exact h.reads (by unfold Chain.appearD; dsimp only; split <;> rfl)
  | lineActivityLost p =>
    cases he
    refine State.unlessHeld_keeps h ?_
    cases p with
    | U => exact h.loseU
    | D => exact h.loseD
  | frameOriginate b =>
    cases he
    have pulled : (s.setHoldPulled b).LaneLaw := h.reads rfl
    refine State.unlessHeld_keeps pulled ?_
    split
    · exact (pulled.handleGood _).reads rfl
    · exact pulled
  | outboundFrameReceive o b =>
    cases he
    have pulled : (s.setHoldPulled b).LaneLaw := h.reads rfl
    have found : (s.setHoldPulled b).findSyncU.LaneLaw := pulled.reads rfl
    refine State.unlessHeld_keeps pulled ?_
    split
    · exact pulled
    · split
      · exact found.goodOutbound _ _
      · exact found.badOutbound _
  | syncMissingPeriod p b =>
    cases he
    have pulled : (s.setHoldPulled b).LaneLaw := h.reads rfl
    refine State.unlessHeld_keeps pulled ?_
    cases p with
    | U =>
      dsimp only
      split
      · exact pulled
      · exact pulled.badOutbound _
    | D =>
      dsimp only
      split
      · exact pulled.badReturn _
      · exact pulled
  | returnFrameReceive o =>
    cases he
    have found : s.findSyncD.LaneLaw := h.reads rfl
    refine State.unlessHeld_keeps h ?_
    split
    · exact h
    · split
      · exact found.goodReturn _ _
      · exact found.badReturn _
  | discardMarkExpire =>
    cases he
    refine State.unlessHeld_keeps h ?_
    split
    · exact h.reads rfl
    · exact h
  | nodeReset t =>
    cases he
    exact h.laneCommand (fun _ u _ _ _ => ⟨u.laneLaw_nodeReset, nofun⟩)
  | wake t =>
    cases he
    refine h.laneCommand (fun _ u _ _ law => ⟨?_, nofun⟩)
    unfold State.wake
    split
    · exact u.laneLaw_nodeReset
    · exact law
  | quiet t =>
    cases he
    exact h.laneCommand (keepsLane_of_stands rfl fun _ u => judged_leaves u.laneStands_enterQuiet)
  | chainSet t =>
    cases he
    exact h.laneCommand (keepsLane_of_stands rfl fun _ _ => judged_leaves (.of_view rfl))
  | _ => cases moves

/-- The events inside the blocks and the other lane commands. -/
theorem State.LaneLaw.otherRows {c : Instr} {t : State} (h : s.LaneLaw) (moves : movesView c = false)
    (he : exec c s = .next t) : t.LaneLaw := by
  cases c with
  | powerOnReset _ _ | powerOnResetHeld | lineActivityAppears _ | lineActivityLost _ | frameOriginate _
  | outboundFrameReceive _ _ | syncMissingPeriod _ _ | returnFrameReceive _ | discardMarkExpire
  | nodeReset _ | quiet _ | wake _ | chainSet _ => cases moves
  | coreShaped _ | gateHangExpire _ | quietHoldExpire _ | recoveryStep _ =>
    cases he
    exact State.whileComputing_keeps h (h.reads rfl)
  | checkPass =>
    cases he
    refine State.whileComputing_keeps h ?_
    split
    · exact h
    · split
      · exact h.stands (State.laneStands_endCheckPass ‹_›)
      · exact h
  | checkFail =>
    cases he
    refine State.whileComputing_keeps h ?_
    split
    · exact h
    · split
      · exact h.stands (State.laneStands_endCheckFail ‹_› _ _)
      · exact h
      · exact h
  | cueFire k =>
    cases he
    refine State.whileComputing_keeps h ?_
    split
    · exact h.reads (by simp [State.laneView])
    · exact h
  | crossfadeEnd =>
    cases he
    refine State.whileComputing_keeps h ?_
    split
    · exact h.reads rfl
    · exact h
  | badKindCommand k t =>
    cases he
    split
    · rename_i bad
      have ordinary : kindIsReset k = false := by
        by_contra reset
        simp only [kindIsReset, Bool.not_eq_false, Bool.or_eq_true, beq_iff_eq] at reset
        rcases reset with rfl | rfl <;> cases bad
      exact h.laneCommand (keepsLane_of_stands ordinary fun _ _ => trivial)
    · exact h
  | identify t | eventsRead t | chainRead t | groupRead t | cueRead t =>
    cases he
    exact h.laneCommand (keepsLane_of_stands rfl fun _ u => judged_leaves (.refl u))
  | pickupRead t =>
    cases he
    exact h.laneCommand (keepsLane_of_stands rfl fun _ u => judged_leaves (judgePickupRead_leaves (.refl u)))
  | feedRead t =>
    cases he
    exact h.laneCommand (keepsLane_of_stands rfl fun _ u => judged_leaves (judgeFeedRead_leaves (.refl u)))
  | coreRead t =>
    cases he
    exact h.laneCommand (keepsLane_of_stands rfl fun _ u => judged_leaves (judgeCoreRead_leaves (.refl u)))
  | sceneRead t =>
    cases he
    exact h.laneCommand (keepsLane_of_stands rfl fun _ u => judged_leaves (judgeSceneRead_leaves (.refl u)))
  | tapRead t =>
    cases he
    exact h.laneCommand (keepsLane_of_stands rfl fun _ u => judged_leaves (judgeTapRead_leaves (.refl u)))
  | guardRead t =>
    cases he
    exact h.laneCommand (keepsLane_of_stands rfl fun _ u => judged_leaves (judgeGuardRead_leaves (.refl u)))
  | patternRead t =>
    cases he
    exact h.laneCommand (keepsLane_of_stands rfl fun _ u => judged_leaves
      (judgePatternRead_leaves (.refl u) (.of_view rfl)))
  | eventsClear t | eventsMask t | groupSet t | hold t | resume t =>
    cases he
    exact h.laneCommand (keepsLane_of_stands rfl fun _ _ => judged_leaves (.of_view rfl))
  | patternSet t =>
    cases he
    exact h.laneCommand (keepsLane_of_stands rfl fun _ _ => judged_leaves
      (judgePatternSet_leaves fun _ => .of_view rfl))
  | pickupSet t =>
    cases he
    exact h.laneCommand (keepsLane_of_stands rfl fun _ _ => judged_leaves
      (judgePickupSet_leaves fun _ _ _ _ _ _ _ _ _ => .of_view rfl))
  | feedSet t =>
    cases he
    exact h.laneCommand (keepsLane_of_stands rfl fun _ _ => judged_leaves
      (judgeFeedSet_leaves fun _ _ _ => .of_view rfl))
  | coreShape t =>
    cases he
    exact h.laneCommand (keepsLane_of_stands rfl fun _ u => judged_leaves
      (judgeCoreShape_leaves fun c lengths => u.laneStands_shapeCore c lengths))
  | sceneHead t =>
    cases he
    exact h.laneCommand (keepsLane_of_stands rfl fun _ u => judged_leaves
      (onUnlocked_leaves fun i => u.laneStands_editScene i (.withHeader _)))
  | sceneClear t =>
    cases he
    exact h.laneCommand (keepsLane_of_stands rfl fun _ u => judged_leaves
      (onUnlocked_leaves fun i => u.laneStands_editScene i fun _ => Scene.reset))
  | tapWrite t =>
    cases he
    refine h.laneCommand (keepsLane_of_stands rfl fun _ u => ?_)
    split
    · trivial
    · exact judgeTapWrite_leaves fun i _ _ => u.laneStands_editScene i (.withTaps _ _)
  | sceneCheck t =>
    cases he
    exact h.laneCommand keepsLane_sceneCheck
  | cue t =>
    cases he
    exact h.laneCommand (keepsLane_of_stands rfl fun _ u => judged_leaves (judgeCue_leaves (.refl u)
      fun _ _ _ => .of_view (by simp [State.laneView])))
  | cueCancel t | guardSet t =>
    cases he
    exact h.laneCommand (keepsLane_of_stands rfl fun _ _ => judged_leaves
      (.of_view (by simp [State.laneView])))

/-- Settles O10: by what each row does to the queues, the contexts and the read record. -/
theorem stepKeepsLaneLaw : Obligations.StepKeepsLaneLaw := by
  intro s t law stepped
  refine step_keeps_of_exec_keeps (P := State.LaneLaw) (fun _ _ h => h.reads rfl) (fun c u v h he => ?_) law stepped
  cases moves : movesView c with
  | true => exact h.frameRows moves he
  | false => exact h.otherRows moves he

end Sys2Proof.Machine
end

section
/-!
PROOFS. Settles O17 and O18: the layouts of a tap record and of the roll-call octet (R57, R166, R169, R172, R187).
-/

namespace Sys2Proof.Machine

/-! ## Tap records (R57, R172) -/

/-- R167: two octets side by side are their number. -/
theorem ofNat_two_octets (a b : Byte) : BitVec.ofNat 16 (a.toNat * 256 + b.toNat) = a ++ b := by
  apply BitVec.eq_of_toNat_eq
  have high := a.isLt
  have low := b.isLt
  rw [BitVec.toNat_append, ← Nat.shiftLeft_add_eq_or_of_lt low, Nat.shiftLeft_eq, BitVec.toNat_ofNat]
  exact Nat.mod_eq_of_lt (by omega)

/-- R57, R172: eight octets read as a tap record. -/
theorem tapAt_octets (a b c d e f g h : Byte) : tapAt [a, b, c, d, e, f, g, h] 0 =
    ⟨a, min 32767 (b.toNat * 256 + c.toNat), d ++ e, f, g, min 7 h.toNat⟩ :=
  congrArg (fun gain => Tap.mk a (min 32767 (b.toNat * 256 + c.toNat)) gain f g (min 7 h.toNat)) (ofNat_two_octets d e)

/-- R172: a record is read from its own 8 octets alone. -/
theorem tapAt_between (p m q : List Byte) (h : m.length = 8) : tapAt (p ++ m ++ q) p.length = tapAt m 0 := by
  have octet (i : Nat) (hi : i < 8) : (p ++ m ++ q).getD (p.length + i) 0 = m.getD i 0 :=
    getD_between rfl (h ▸ hi)
  have first := octet 0 (by decide)
  simp only [Nat.add_zero] at first
  simp only [tapAt, at16, at8, Nat.add_assoc, Nat.zero_add, Nat.reduceAdd, first, octet, Nat.reduceLT]

/-- R57, R172: a record within the parameters is what its octets give back. -/
theorem tapAt_tapOctets {t : Tap} (delay : t.delay ≤ 32767) (depth : t.depth ≤ 7) : tapAt (tapOctets t) 0 = t := by
  obtain ⟨source, delay', gain, dest, group, depth'⟩ := t
  have gainRead : octet (gain.toNat / 256) ++ octet gain.toNat = gain := by
    have bound := gain.isLt
    rw [← ofNat_two_octets, octet_toNat, octet_toNat]
    apply BitVec.eq_of_toNat_eq
    rw [BitVec.toNat_ofNat]
    omega
  have delayRead : min 32767 ((octet (delay' / 256)).toNat * 256 + (octet delay').toNat) = delay' := by
    rw [octet_toNat, octet_toNat]
    dsimp only at delay
    omega
  have depthRead : min 7 (octet depth').toNat = depth' := by
    rw [octet_toNat]
    dsimp only at depth
    omega
  refine (tapAt_octets source (octet (delay' / 256)) (octet delay') (octet (gain.toNat / 256)) (octet gain.toNat) dest
    group (octet depth')).trans ?_
  rw [gainRead, delayRead, depthRead]

/-- Settles O17. -/
theorem tapRecordLayout : Obligations.TapRecordLayout :=
  ⟨fun t => ⟨rfl, fun delay depth p q => (tapAt_between p (tapOctets t) q rfl).trans (tapAt_tapOctets delay depth)⟩,
    tapAt_octets⟩

/-! ## The roll-call octet (R166, R169) -/

/-- R169: seven flags, each at its bit, below PRESENT. -/
theorem flagBits : ∀ lead attention pressure holding fading quiet guard : Bool,
    let o := octet (128 + (if lead then 64 else 0) + (if attention then 32 else 0) + (if pressure then 16 else 0) +
      (if holding then 8 else 0) + (if fading then 4 else 0) + (if quiet then 2 else 0) + (if guard then 1 else 0))
    o.getLsbD 7 = true ∧ o.getLsbD 6 = lead ∧ o.getLsbD 5 = attention ∧ o.getLsbD 4 = pressure ∧
      o.getLsbD 3 = holding ∧ o.getLsbD 2 = fading ∧ o.getLsbD 1 = quiet ∧ o.getLsbD 0 = guard := by
  decide

/-- R187: ATTENTION stands for some latch that is set and not masked. -/
theorem Events.attention_iff (ev : Events) : ev.attention = true ↔
    ∃ i < 23, ev.latch.getLsbD i = true ∧ ev.mask.getLsbD i = false := by
  have clear (i : Nat) (hi : i < 23) : (ev.latch &&& ~~~ev.mask).getLsbD i = (0 : BitVec 23).getLsbD i ↔
      ¬(ev.latch.getLsbD i = true ∧ ev.mask.getLsbD i = false) := by
    simp [hi]
  rw [Events.attention, bne_iff_ne, ne_eq, BitVec.eq_of_getLsbD_eq_iff]
  constructor
  · intro some
    by_contra none
    exact some fun i hi => (clear i hi).2 fun shown => none ⟨i, hi, shown⟩
  · rintro ⟨i, hi, shown⟩ all
    exact (clear i hi).1 (all i hi) shown

theorem CueState.fades_iff (c : CueState) : c.fades = true ↔ c = .fading ∨ c = .fadingArmed := by
  cases c <;> simp [CueState.fades]

/-- Settles O18: the octet's flags are the state's. -/
theorem rollCallOctetShowsFlags : Obligations.RollCallOctetShowsFlags := by
  intro s
  have formed : s.rollCall = octet (128 + (if s.chain.leader then 64 else 0) + (if s.events.attention then 32 else 0) +
      (if s.lane.backpressure then 16 else 0) + (if decide (s.hold.state ≠ .running) then 8 else 0) +
      (if s.cue.state.fades then 4 else 0) + (if decide (s.hold.condition = .quiet) then 2 else 0) +
      (if s.guardFlag then 1 else 0)) := by
    simp only [State.rollCall, decide_eq_true_eq, ite_not]
  obtain ⟨present, lead, attention, pressure, holding, fading, quiet, guard⟩ := flagBits s.chain.leader
    s.events.attention s.lane.backpressure (decide (s.hold.state ≠ .running)) s.cue.state.fades
    (decide (s.hold.condition = .quiet)) s.guardFlag
  rw [formed]
  refine ⟨present, lead, ?_, pressure, ?_, ?_, ?_, ?_⟩
  · rw [attention, Events.attention_iff]
  · rw [holding, decide_eq_true_eq]
  · rw [fading, CueState.fades_iff]
  · rw [quiet, decide_eq_true_eq]
  · rw [guard, State.guardFlag, Bank.any_iff]
    simp only [decide_eq_true_eq]

end Sys2Proof.Machine
end

section
/-!
PROOFS. Settles O49: broadcast queries, unknown kinds, refusals and the status octet (R162, R173, R175 to R177).
-/

namespace Sys2Proof.Machine

/-- R175: a row of kind `kind` that takes its command from the lane, a query or not. -/
def LaneRow (kind : Byte) (query : Bool) (row : Taking → Instr) : Prop :=
  ∃ judge : Entry → State → Verdict, ∀ t s, exec (row t) s = .next (s.laneCommand kind query judge t)

/-- R175: the query rows of the table, one by one. -/
theorem laneRow_of_queryRows {r : Byte × Nat × (Taking → Instr)} (member : r ∈ queryRows) :
    LaneRow r.1 true r.2.2 := by
  simp only [queryRows, List.mem_cons, List.not_mem_nil, or_false] at member
  rcases member with rfl | rfl | rfl | rfl | rfl | rfl | rfl | rfl | rfl | rfl | rfl | rfl <;>
    exact ⟨_, fun _ _ => rfl⟩

/-- R175: the kinds of the rows are the kinds the Command Unit recognises. -/
theorem laneRows_kinds : laneRows.map Prod.fst = knownKinds := rfl

/-- R157, R175: a command kind of no row. -/
theorem kindBad_of_no_row {kind : Byte} (command : kind.toNat < 128) (unknown : kind ∉ laneRows.map Prod.fst) :
    kindBad kind = true := by
  rw [laneRows_kinds] at unknown
  simp [kindBad, kindKnown, command, unknown]

/-- R176: a bad kind's row. -/
theorem exec_badKindCommand {kind : Byte} (bad : kindBad kind = true) (t : Taking) (s : State) :
    exec (.badKindCommand kind t) s = .next (s.laneCommand kind false (fun _ _ => .refused .badKind) t) :=
  congrArg _ (if_pos bad)

/-- R173: LOST_BEFORE above a code of 7 bits. -/
theorem lostBefore_above_code : ∀ (lost : Bool) (code : Fin 128),
    (octet ((if lost then 128 else 0) + code.val)).getLsbD 7 = lost ∧
    (octet ((if lost then 128 else 0) + code.val)).toNat % 128 = code.val := by
  decide

theorem statusCode_lt (st : Status) : statusCode st < 128 := by
  cases st <;> decide

/-- R173: the two parts of the status octet. -/
theorem statusOctet_parts (lost : Bool) (st : Status) :
    (statusOctet lost st).getLsbD 7 = lost ∧ (statusOctet lost st).toNat % 128 = statusCode st :=
  lostBefore_above_code lost ⟨statusCode st, statusCode_lt st⟩

/-- Settles O49. -/
theorem broadcastQueriesAndBadKindsAreRefused : Obligations.BroadcastQueriesAndBadKindsAreRefused := by
  refine ⟨fun kind n row s e rest member h broadcast => ?_, fun kind s e rest command unknown h => ?_,
    fun s e st => ?_, fun lost => ⟨fun st => (statusOctet_parts lost st).1, ?_⟩, fun s k st data => rfl⟩
  · obtain ⟨judge, runs⟩ := laneRow_of_queryRows member
    refine (runs .queued s).trans (congrArg _ ((h.laneCommand true judge).trans ?_))
    exact if_pos (by rw [broadcast]; rfl)
  · exact (exec_badKindCommand (kindBad_of_no_row command unknown) .queued s).trans (congrArg _ (h.refuses rfl false))
  · unfold State.refusal
    split <;> rfl
  · simp only [statusOctet_parts]
    rfl

end Sys2Proof.Machine
end

section
/-!
PROOFS. Settles O47: the command queue, and how a lane command row comes to its command (R161, R162, log 3).
-/

namespace Sys2Proof.Machine

/-- R175: the rows of the table, one by one. -/
theorem laneRow_of_laneRows {r : Byte × (Taking → Instr)} (member : r ∈ laneRows) : ∃ query, LaneRow r.1 query r.2 := by
  simp only [laneRows, List.mem_append, List.mem_cons, List.not_mem_nil, or_false] at member
  rcases member with
    ((rfl | rfl | rfl | rfl | rfl | rfl | rfl | rfl | rfl | rfl | rfl) |
     (rfl | rfl | rfl | rfl | rfl | rfl | rfl | rfl | rfl | rfl | rfl)) |
    (rfl | rfl | rfl | rfl | rfl | rfl | rfl | rfl | rfl | rfl) <;>
    exact ⟨_, _, fun _ _ => rfl⟩

/-- R175, R176: a row of the table, or that of a kind the table lacks. -/
theorem laneRow_of_row {r : Byte × (Taking → Instr)}
    (row : r ∈ laneRows ∨ (kindBad r.1 = true ∧ r.2 = .badKindCommand r.1)) : ∃ query, LaneRow r.1 query r.2 := by
  rcases row with member | ⟨bad, row⟩
  · exact laneRow_of_laneRows member
  · rw [row]
    exact ⟨false, _, exec_badKindCommand bad⟩

section
variable {s : State} (high : s.pins.rstLow = false) {kind : Byte} {query : Bool} {judge : Entry → State → Verdict}
include high

theorem State.laneCommand_queued_high :
    s.laneCommand kind query judge .queued = s.takeHead kind query judge := if_neg (by simp [high])

/-- R160, R161: a message that completes is offered, and taken at once when no command waits before it. -/
theorem State.laneCommand_arriving_high (m : LaneMessage) : s.laneCommand kind query judge (.arriving m) =
    if s.lane.queue = [] then (s.offer m.source kind m.tag m.params m.broadcast).takeHead kind query judge
    else s.offer m.source kind m.tag m.params m.broadcast := if_neg (by simp [high])

end

section
variable {s : State} {e : Entry} {rest : List Entry} (head : s.lane.queue = e :: rest) {kind : Byte}
  (query : Bool) (judge : Entry → State → Verdict)
include head

/-- R162: an oldest entry of another kind, or one that may not be taken, stays. -/
theorem State.laneCommand_waits (waits : ¬(e.kind = kind ∧ s.mayTake e = true)) :
    s.laneCommand kind query judge .queued = s := by
  have still : s.takeHead kind query judge = s := by
    unfold State.takeHead
    rw [head]
    exact if_neg waits
  unfold State.laneCommand
  rw [still]
  exact ite_self s

end

/-- R162: a unicast command that is no reset waits for a FREE reply entry. -/
theorem State.mayTake_full {s : State} {e : Entry} (unicast : e.broadcast = false) (ordinary : e.kind ≠ 2 ∧ e.kind ≠ 4)
    (full : s.freeReplies = 0) : s.mayTake e = false := by
  have posted : kindIsReset e.kind = false := by
    unfold kindIsReset
    rw [beq_eq_false_iff_ne.2 ordinary.1, beq_eq_false_iff_ne.2 ordinary.2]
    rfl
  simp [State.mayTake, unicast, posted, full]

/-- Settles O47. -/
theorem commandsAreQueuedTakenOrWait : Obligations.CommandsAreQueuedTakenOrWait := by
  refine ⟨⟨fun s src kind tag params b => ⟨fun room => ?_, fun full => ?_⟩, fun s rest => ?_⟩,
    fun row m s kinds high => ?_, fun row s e rest kinds head => ⟨fun same notReset notWake unicast full => ?_,
    fun other => ?_⟩⟩
  · rcases s.offer_cases src kind tag params b with ⟨-, h⟩ | ⟨full, -⟩
    · rwa [pressureAdded_eq] at h
    · exact absurd room (Nat.not_lt.2 full)
  · rcases s.offer_cases src kind tag params b with ⟨room, -⟩ | ⟨-, h⟩
    · exact absurd room (Nat.not_lt.2 full)
    · exact h
  · rw [State.popQueue, pressureTaken_eq]
  · obtain ⟨query, judge, runs⟩ := laneRow_of_row kinds
    have offered : (s.offer m.source row.1 m.tag m.params m.broadcast).pins.rstLow = false := by
      rw [(s.offer_frame _ _ _ _ _).1, high]
    constructor
    · intro empty
      rw [runs, runs, State.laneCommand_arriving_high high, if_pos empty, State.laneCommand_queued_high offered]
    · intro waiting
      rw [runs, State.laneCommand_arriving_high high, if_neg waiting]
  · obtain ⟨query, judge, runs⟩ := laneRow_of_row kinds
    have stays : s.mayTake e = false := State.mayTake_full unicast (by rw [same]; exact ⟨notReset, notWake⟩) full
    rw [runs, State.laneCommand_waits head query judge (by simp [stays])]
  · obtain ⟨query, judge, runs⟩ := laneRow_of_row kinds
    rw [runs, State.laneCommand_waits head query judge fun taken => other taken.1]

end Sys2Proof.Machine
end

section
/-!
PROOFS. Settles O20: what a segment or its loss does to the context of its source, case by case, and how a complete
message is judged (R156 to R160, R171).
-/

namespace Sys2Proof.Machine

/-! ## The IDLE context (R158) -/

/-- R157, R158: the destinations that name the part. -/
theorem State.addressed_iff (dest : Byte) (s : State) :
    s.addressed dest = true ↔ dest = 255 ∨ dest = octet s.chain.address.val := by
  simp only [State.addressed, Bool.or_eq_true, beq_iff_eq]

section
variable {s : State} {i : Fin 16} {f : FrameNo} {g : Segment}

/-- R158: an IDLE context ignores a segment that begins nothing, and one for another node. -/
theorem State.idleTakes_ignores
    (h : g.mark ≠ 1 ∧ g.mark ≠ 2 ∨ s.addressed (g.payload.items.getD 0 0) = false) : s.idleTakes i f g = s := by
  unfold State.idleTakes
  rcases h with ⟨notOnly, notFirst⟩ | other
  · unfold markOf
    rw [if_neg notOnly, if_neg notFirst]
    split_ifs <;> rfl
  · simp only [other]
    cases markOf g.mark <;> rfl

/-- R158: ONLY completes a message at once. -/
theorem State.idleTakes_only (named : s.addressed (g.payload.items.getD 0 0) = true) (mark : g.mark = 1) :
    s.idleTakes i f g = s.completeMessage i g.payload.items 1 (at16 g.payload.items 3)
      (g.payload.items.getD 0 0 == 255) := by
  unfold State.idleTakes
  rw [mark]
  exact if_pos named

/-- R158: FIRST begins a message, or is broken at once when it declares too much. -/
theorem State.idleTakes_first (named : s.addressed (g.payload.items.getD 0 0) = true) (mark : g.mark = 2) :
    s.idleTakes i f g = if 441 < at16 g.payload.items 3 then s.breakMessage i
      else s.setContext i (some ⟨g.payload.items, 1, at16 g.payload.items 3, g.payload.items.getD 0 0 == 255,
        f + 16⟩) := by
  unfold State.idleTakes
  rw [mark]
  exact if_pos named

/-! ## The ASSEMBLING context (R159) -/

variable {a : Assembly}

/-- R159: what breaks a message in assembly; the segment is judged again. -/
theorem State.assemblyTakes_breaks (h : f ≠ a.expected ∨ g.mark ≠ 3 ∧ g.mark ≠ 4 ∨
    g.mark = 3 ∧ (segmentsNeeded a.declared ≤ a.segments ∨ 64 ≤ a.segments)) :
    s.assemblyTakes i a f g = (s.breakMessage i).idleTakes i f g := by
  unfold State.assemblyTakes
  by_cases expected : f = a.expected
  · rw [if_neg (not_not_intro expected)]
    rcases h with unexpected | ⟨notMore, notLast⟩ | ⟨mark, past⟩
    · exact absurd expected unexpected
    · unfold markOf
      rw [if_neg notMore, if_neg notLast]
      split_ifs <;> rfl
    · rw [mark]
      exact if_neg (by omega)
  · exact if_pos expected

/-- R159: MORE within its count goes on. -/
theorem State.assemblyTakes_more (expected : f = a.expected) (mark : g.mark = 3)
    (below : a.segments < segmentsNeeded a.declared ∧ a.segments < 64) :
    s.assemblyTakes i a f g = s.setContext i (some { a with
      octets := a.octets ++ g.payload.items, segments := a.segments + 1, expected := f + 16 }) := by
  unfold State.assemblyTakes
  rw [if_neg (not_not_intro expected), mark]
  exact if_pos below

/-- R159: LAST completes the message. -/
theorem State.assemblyTakes_last (expected : f = a.expected) (mark : g.mark = 4) :
    s.assemblyTakes i a f g = (s.setContext i none).completeMessage i (a.octets ++ g.payload.items) (a.segments + 1)
      a.declared a.broadcast := by
  unfold State.assemblyTakes
  rw [if_neg (not_not_intro expected), mark]
  rfl

end

/-! ## The context of a source (R156) -/

section
variable {s : State} {f : FrameNo} (g : Segment)

theorem State.takeSegment_own (own : turnOf f = s.chain.address) : s.takeSegment f g = s := if_pos own

theorem State.loseSegment_own (own : turnOf f = s.chain.address) : s.loseSegment f = s := if_pos own

variable (other : turnOf f ≠ s.chain.address)
include other

theorem State.takeSegment_idle (idle : s.lane.contexts.get (turnOf f) = none) :
    s.takeSegment f g = s.idleTakes (turnOf f) f g := by
  rw [State.takeSegment, if_neg other, idle]

theorem State.takeSegment_assembling {a : Assembly} (assembling : s.lane.contexts.get (turnOf f) = some a) :
    s.takeSegment f g = s.assemblyTakes (turnOf f) a f g := by
  rw [State.takeSegment, if_neg other, assembling]

omit g in
theorem State.loseSegment_idle (idle : s.lane.contexts.get (turnOf f) = none) : s.loseSegment f = s := by
  rw [State.loseSegment, if_neg other, idle]

omit g in
theorem State.loseSegment_assembling {a : Assembly} (assembling : s.lane.contexts.get (turnOf f) = some a) :
    s.loseSegment f = s.breakMessage (turnOf f) := by
  rw [State.loseSegment, if_neg other, assembling]

/-- R159: a broken message leaves its context IDLE. -/
theorem State.takeSegment_broken :
    (s.breakMessage (turnOf f)).takeSegment f g = (s.breakMessage (turnOf f)).idleTakes (turnOf f) f g :=
  State.takeSegment_idle g other (Bank.get_set_self ..)

end

/-! ## A complete message (R160) -/

/-- R157, R160: a complete message has as many segments as its length asks for, and its check. -/
def Sound (octets : List Byte) (segments declared : Nat) : Prop :=
  segments = (declared + 13) / 7 ∧ at16 octets (declared + 5) = (crc16 (octets.take (declared + 5))).toNat

/-- R160: the three judgements of a complete message. -/
theorem State.completeMessage_eq (s : State) (i : Fin 16) (octets : List Byte) (segments declared : Nat) (b : Bool) :
    (¬Sound octets segments declared → s.completeMessage i octets segments declared b = State.latch .messageBad
      { s with events := { s.events with badMessages := countUp top32 s.events.badMessages 1 } }) ∧
    (Sound octets segments declared → 128 ≤ at8 octets 1 → s.completeMessage i octets segments declared b = s) ∧
    (Sound octets segments declared → at8 octets 1 < 128 → s.completeMessage i octets segments declared b =
      s.offer i (octets.getD 1 0) (octets.getD 2 0) ((octets.drop 5).take declared) b) := by
  have tests : (segments = segmentsNeeded declared ∧ checkMatches octets (declared + 5) = true) ↔
      Sound octets segments declared := by
    rw [checkMatches, beq_iff_eq]
    rfl
  unfold State.completeMessage
  refine ⟨fun bad => if_neg (mt tests.1 bad), fun sound reply => ?_, fun sound command => ?_⟩
  · rw [if_pos (tests.2 sound), if_neg (Nat.not_lt.2 reply)]
  · rw [if_pos (tests.2 sound), if_pos command]

/-- Settles O20. -/
theorem laneBreaksAndDiscardsMessages : Obligations.LaneBreaksAndDiscardsMessages := by
  refine ⟨fun s f g => ⟨fun own => ⟨State.takeSegment_own g own, State.loseSegment_own own⟩, fun other idle => ?_,
    fun a other assembling => ?_⟩,
    fun s i octets segments declared b => s.completeMessage_eq i octets segments declared b,
    fun s f => ⟨fun read => if_pos read, fun unread => if_neg unread⟩⟩
  · rw [State.takeSegment_idle g other idle]
    refine ⟨State.loseSegment_idle other idle, fun ignored => State.idleTakes_ignores ?_, fun named mark => ?_,
      fun named mark long => ?_, fun named mark short => ?_⟩
    · exact ignored.imp_right fun unnamed => Bool.eq_false_iff.2 (mt (State.addressed_iff _ _).1 unnamed)
    · exact State.idleTakes_only ((State.addressed_iff _ _).2 named) mark
    · exact (State.idleTakes_first ((State.addressed_iff _ _).2 named) mark).trans (if_pos long)
    · exact (State.idleTakes_first ((State.addressed_iff _ _).2 named) mark).trans (if_neg (Nat.not_lt.2 short))
  · rw [State.takeSegment_assembling g other assembling]
    refine ⟨State.loseSegment_assembling other assembling, fun breaks => ?_, fun expected mark more room => ?_,
      fun expected mark => ?_⟩
    · exact (State.assemblyTakes_breaks breaks).trans (State.takeSegment_broken g other).symm
    · exact State.assemblyTakes_more expected mark ⟨more, room⟩
    · exact State.assemblyTakes_last expected mark

end Sys2Proof.Machine
end

section
/-!
PROOFS. Settles O19: the segments of a message, taken in successive turns of its source, give the message back (R157 to
R160, R170, R171).
-/

namespace Sys2Proof.Machine

/-! ## The octets of a message and of its segments (R157, R171) -/

/-- R171: the header and the parameters of a message, the octets its check is over. -/
def messageHead (dest kind tag : Byte) (params : List Byte) : List Byte :=
  [dest, kind, tag] ++ octets2 params.length ++ params

theorem messageOctets_eq (dest kind tag : Byte) (params : List Byte) :
    messageOctets dest kind tag params =
      messageHead dest kind tag params ++ crcOctets (messageHead dest kind tag params) :=
  rfl

theorem messageHead_length (dest kind tag : Byte) (params : List Byte) :
    (messageHead dest kind tag params).length = params.length + 5 := by
  simp [messageHead]
  omega

theorem messageOctets_length (dest kind tag : Byte) (params : List Byte) :
    (messageOctets dest kind tag params).length = params.length + 7 := by
  rw [messageOctets_eq, List.length_append, messageHead_length]
  rfl

/-- R157: what `k` segments carry of `o`: its first `7 k` octets, with 0 beyond its end. -/
def carried (o : List Byte) (k : Nat) : List Byte := (List.range (7 * k)).map fun j => o.getD j 0

theorem carried_length (o : List Byte) (k : Nat) : (carried o k).length = 7 * k := by simp [carried]

/-- R157: each segment carries the next 7 octets. -/
theorem carried_succ (o : List Byte) (m k : Nat) :
    carried o (k + 1) = carried o k ++ (messageSegment o m k).payload.items := by
  have next : (messageSegment o m k).payload.items = (List.range 7).map fun j => o.getD (7 * k + j) 0 :=
    rfl
  rw [next, carried, Nat.mul_succ, List.range_add, List.map_append, List.map_map]
  rfl

theorem carried_one (o : List Byte) (m : Nat) : (messageSegment o m 0).payload.items = carried o 1 :=
  (carried_succ o m 0).symm

theorem carried_getD {o : List Byte} {k j : Nat} (h : j < 7 * k) : (carried o k).getD j 0 = o.getD j 0 := by
  simp [carried, List.getD, h]

/-- R157: segments that reach the end of the octets carry them all. -/
theorem carried_take {o : List Byte} {k n : Nat} (h : n ≤ o.length) (reach : n ≤ 7 * k) :
    (carried o k).take n = o.take n := by
  refine List.ext_getElem (by simp [carried_length]; omega) fun j hj _ => ?_
  have below : j < n := lt_of_lt_of_le hj (by simp)
  simp [carried, List.getD, List.getElem?_eq_getElem (show j < o.length by omega)]

section
variable (dest kind tag : Byte) (params : List Byte) {k : Nat}

/-- R171: the header of the message, in its first segment and all after it. -/
theorem carried_header (started : 1 ≤ k) (short : params.length ≤ 441) :
    let c := carried (messageOctets dest kind tag params) k
    c.getD 0 0 = dest ∧ c.getD 1 0 = kind ∧ c.getD 2 0 = tag ∧ at16 c 3 = params.length := by
  have read (j : Nat) (hj : j < 7) : (carried (messageOctets dest kind tag params) k).getD j 0 =
      (messageOctets dest kind tag params).getD j 0 := carried_getD (by omega)
  refine ⟨read 0 (by decide), read 1 (by decide), read 2 (by decide), ?_⟩
  rw [at16, at8, at8, read 3 (by decide), read 4 (by decide)]
  exact at16_octets2 (show params.length < 65536 by omega)

/-- R160, R171: the segments of the whole message carry its parameters and its check. -/
theorem carried_whole (reach : params.length + 7 ≤ 7 * k) :
    let c := carried (messageOctets dest kind tag params) k
    (c.drop 5).take params.length = params ∧
    at16 c (params.length + 5) = (crc16 (c.take (params.length + 5))).toNat := by
  have length := messageOctets_length dest kind tag params
  have head := messageHead_length dest kind tag params
  have whole : (carried (messageOctets dest kind tag params) k).take (params.length + 5) =
      messageHead dest kind tag params := by
    rw [carried_take (by omega) (by omega), messageOctets_eq, List.take_left' head]
  have check (j : Nat) (hj : j < 2) : at8 (carried (messageOctets dest kind tag params) k) (params.length + 5 + j) =
      at8 (crcOctets (messageHead dest kind tag params)) j := by
    have between := at8_between (suf := []) (mid := crcOctets (messageHead dest kind tag params)) head hj
    rw [List.append_nil] at between
    rw [at8, carried_getD (by omega), ← between]
    rfl
  constructor
  · rw [List.take_drop, Nat.add_comm 5, whole]
    rfl
  · rw [whole, at16, check 0 (by decide), check 1 (by decide)]
    exact at16_octets2 (crc16 (messageHead dest kind tag params)).isLt

end

/-! ## The marks (R157) -/

theorem segmentsNeeded_bounds (n : Nat) : n + 7 ≤ 7 * segmentsNeeded n ∧ 7 * segmentsNeeded n ≤ n + 13 := by
  unfold segmentsNeeded
  omega

theorem markOctet_first {m : Nat} (several : 1 < m) : markOctet 0 m = 2 := by
  rw [markOctet, if_neg (by omega), if_pos rfl]

theorem markOctet_more {i m : Nat} (begun : 1 ≤ i) (goesOn : i + 1 < m) : markOctet i m = 3 := by
  rw [markOctet, if_neg (by omega), if_neg (by omega), if_neg (by omega)]

theorem markOctet_last {i m : Nat} (begun : 1 ≤ i) (ends : i + 1 = m) : markOctet i m = 4 := by
  rw [markOctet, if_neg (by omega), if_neg (by omega), if_pos ends]

/-! ## Frames and contexts -/

/-- R156: the frames 16 apart are the turns of one source. -/
theorem turnOf_add_sixteen_mul (f : FrameNo) (k : Nat) : turnOf (f + BitVec.ofNat 32 (16 * k)) = turnOf f := by
  refine Fin.ext ?_
  simp only [turnOf, BitVec.toNat_add, BitVec.toNat_ofNat]
  omega

theorem frame_add_sixteen (f : FrameNo) (k : Nat) :
    f + BitVec.ofNat 32 (16 * k) + 16 = f + BitVec.ofNat 32 (16 * (k + 1)) := by
  rw [Nat.mul_succ, BitVec.ofNat_add, BitVec.add_assoc]
  rfl

theorem State.setContext_setContext (i : Fin 16) (a b : Option Assembly) (s : State) :
    (s.setContext i a).setContext i b = s.setContext i b := by
  have same : (s.lane.contexts.set i a).set i b = s.lane.contexts.set i b := Bank.ext_get fun j => by
    by_cases h : j = i
    · rw [h, Bank.get_set_self, Bank.get_set_self]
    · rw [Bank.get_set_of_ne _ h, Bank.get_set_of_ne _ h, Bank.get_set_of_ne _ h]
  simp only [State.setContext, same]

/-- R158: an IDLE context set IDLE. -/
theorem State.setContext_idle {i : Fin 16} {s : State} (idle : s.lane.contexts.get i = none) :
    s.setContext i none = s := by
  have same : s.lane.contexts.set i none = s.lane.contexts := Bank.ext_get fun j => by
    by_cases h : j = i
    · rw [h, Bank.get_set_self, idle]
    · rw [Bank.get_set_of_ne _ h]
  simp only [State.setContext, same]

/-! ## The reassembly (R158, R159) -/

section
variable {s : State} {f : FrameNo} {dest : Byte} (kind tag : Byte) {params : List Byte}

/-- R158, R159: the state after `k` segments of a longer message, taken from frame `f` on. -/
def State.assembling (s : State) (f : FrameNo) (dest kind tag : Byte) (params : List Byte) (k : Nat) : State :=
  s.setContext (turnOf f) (some ⟨carried (messageOctets dest kind tag params) k, k, params.length, dest == 255,
    f + BitVec.ofNat 32 (16 * k)⟩)

/-- R157, R170: segment `k` of the message. -/
def segmentOf (dest kind tag : Byte) (params : List Byte) (k : Nat) : Segment :=
  messageSegment (messageOctets dest kind tag params) (segmentsNeeded params.length) k

variable (named : s.addressed dest = true) (short : params.length ≤ 441) (other : turnOf f ≠ s.chain.address)
  (idle : s.lane.contexts.get (turnOf f) = none)

include named short other idle in
/-- R158: the first segment of several. -/
theorem State.takeSegment_begins (several : 1 < segmentsNeeded params.length) :
    s.takeSegment (f + BitVec.ofNat 32 (16 * 0)) (segmentOf dest kind tag params 0) =
      s.assembling f dest kind tag params 1 := by
  obtain ⟨destRead, -, -, declared⟩ := carried_header dest kind tag params le_rfl short
  have payload := carried_one (messageOctets dest kind tag params) (segmentsNeeded params.length)
  rw [← payload] at destRead declared
  have at_f : f + BitVec.ofNat 32 (16 * 0) = f := by simp
  have begun := State.idleTakes_first (i := turnOf f) (f := f) (g := segmentOf dest kind tag params 0)
    (by rw [segmentOf, destRead]; exact named) (markOctet_first several)
  rw [at_f, State.takeSegment_idle _ other idle, begun, segmentOf, declared, destRead, payload,
    if_neg (Nat.not_lt.2 short)]
  rfl

include other in
/-- R159: a further segment before the last. -/
theorem State.takeSegment_goesOn (short : params.length ≤ 441) {k : Nat} (begun : 1 ≤ k)
    (goesOn : k + 1 < segmentsNeeded params.length) :
    (s.assembling f dest kind tag params k).takeSegment (f + BitVec.ofNat 32 (16 * k))
      (segmentOf dest kind tag params k) =
      s.assembling f dest kind tag params (k + 1) := by
  have turn := turnOf_add_sixteen_mul f k
  have bounds := segmentsNeeded_bounds params.length
  rw [State.takeSegment_assembling _ (by rw [turn]; exact other) (by rw [turn]; exact Bank.get_set_self ..),
    State.assemblyTakes_more rfl (markOctet_more begun goesOn) (by dsimp only; omega), turn, State.assembling,
    State.setContext_setContext, segmentOf, ← carried_succ, frame_add_sixteen]
  rfl

include named short other idle in
/-- R158, R159: all segments but the last. -/
theorem State.takeSegments_assembling (k : Nat) (below : k + 1 < segmentsNeeded params.length) :
    (List.range (k + 1)).foldl (fun t i => t.takeSegment (f + BitVec.ofNat 32 (16 * i))
      (segmentOf dest kind tag params i))
      s = s.assembling f dest kind tag params (k + 1) := by
  induction k with
  | zero => exact State.takeSegment_begins kind tag named short other idle below
  | succ k ih =>
    rw [List.range_succ, List.foldl_append, ih (by omega)]
    exact State.takeSegment_goesOn kind tag other short (by omega) below

/-- R160: the whole message is offered to the queue. -/
theorem State.completeMessage_whole (i : Fin 16) (command : kind.toNat < 128) (short : params.length ≤ 441) (b : Bool) :
    s.completeMessage i (carried (messageOctets dest kind tag params) (segmentsNeeded params.length))
      (segmentsNeeded params.length) params.length b = s.offer i kind tag params b := by
  have bounds := segmentsNeeded_bounds params.length
  obtain ⟨-, kindRead, tagRead, -⟩ := carried_header dest kind tag params
    (k := segmentsNeeded params.length) (by omega) short
  obtain ⟨paramsRead, check⟩ := carried_whole dest kind tag params bounds.1
  have isCommand : at8 (carried (messageOctets dest kind tag params) (segmentsNeeded params.length)) 1 < 128 := by
    rw [at8, kindRead]
    exact command
  rw [(s.completeMessage_eq i _ (segmentsNeeded params.length) _ b).2.2 ⟨rfl, check⟩ isCommand, kindRead, tagRead,
    paramsRead]

include named short other idle in
/-- R158, R160: the segment of a message that fills one. -/
theorem State.takeSegment_only (command : kind.toNat < 128) (one : segmentsNeeded params.length = 1) :
    s.takeSegment (f + BitVec.ofNat 32 (16 * 0)) (segmentOf dest kind tag params 0) =
      s.offer (turnOf f) kind tag params (dest == 255) := by
  obtain ⟨destRead, -, -, declared⟩ := carried_header dest kind tag params le_rfl short
  have whole := State.completeMessage_whole (s := s) (dest := dest) kind tag (turnOf f) command short (dest == 255)
  rw [one, ← carried_one _ 1] at whole
  rw [← carried_one _ 1] at destRead declared
  have at_f : f + BitVec.ofNat 32 (16 * 0) = f := by simp
  have only := State.idleTakes_only (i := turnOf f) (f := f) (g := segmentOf dest kind tag params 0)
    (by rw [segmentOf, one, destRead]; exact named) (by rw [segmentOf, one]; rfl)
  rw [at_f, State.takeSegment_idle _ other idle, only, segmentOf, one, declared, destRead, whole]

include other idle in
/-- R159, R160: the last segment of several. -/
theorem State.takeSegment_ends (command : kind.toNat < 128) (short : params.length ≤ 441) {k : Nat} (begun : 1 ≤ k)
    (ends : k + 1 = segmentsNeeded params.length) :
    (s.assembling f dest kind tag params k).takeSegment (f + BitVec.ofNat 32 (16 * k))
      (segmentOf dest kind tag params k) =
      s.offer (turnOf f) kind tag params (dest == 255) := by
  have turn := turnOf_add_sixteen_mul f k
  rw [State.takeSegment_assembling _ (by rw [turn]; exact other) (by rw [turn]; exact Bank.get_set_self ..),
    State.assemblyTakes_last rfl (markOctet_last begun ends), turn, State.assembling,
    State.setContext_setContext, State.setContext_idle idle, segmentOf, ← carried_succ, ends]
  exact State.completeMessage_whole kind tag _ command short _

end

/-- Settles O19: one segment, or a first, those that go on, and a last. -/
theorem segmentsReassembleTheMessage : Obligations.SegmentsReassembleTheMessage := by
  intro s dest kind tag params f forPart command short other idle
  have named : s.addressed dest = true := (s.addressed_iff dest).2 forPart.symm
  have bounds := segmentsNeeded_bounds params.length
  show (List.range (segmentsNeeded params.length)).foldl (fun t i =>
    t.takeSegment (f + BitVec.ofNat 32 (16 * i)) (segmentOf dest kind tag params i)) s = _
  by_cases one : segmentsNeeded params.length = 1
  · rw [one]
    exact State.takeSegment_only kind tag named short other idle command one
  · obtain ⟨k, several⟩ : ∃ k, segmentsNeeded params.length = k + 1 + 1 := ⟨segmentsNeeded params.length - 2, by omega⟩
    rw [several, List.range_succ, List.foldl_append,
      State.takeSegments_assembling kind tag named short other idle k (by omega)]
    exact State.takeSegment_ends kind tag other idle command short (by omega) several.symm

end Sys2Proof.Machine
end

section
/-!
PROOFS. How the fields of a reply's data read back, from the octets that stand at their place (R167, R174).
-/

namespace Sys2Proof.Machine

/-- `x` stands in `d` from octet `i` on. -/
def StandsAt (x d : List Byte) (i : Nat) : Prop := x <+: d.drop i

section
variable {x d : List Byte} {i : Nat}

theorem StandsAt.before (h : StandsAt x d i) (suf : List Byte) : StandsAt x (d ++ suf) i := by
  unfold StandsAt
  rw [List.drop_append]
  exact h.trans (List.prefix_append ..)

theorem StandsAt.after (h : StandsAt x d i) {pre : List Byte} {n : Nat} (length : pre.length = n) :
    StandsAt x (pre ++ d) (n + i) := by
  subst length
  unfold StandsAt
  rwa [List.drop_append, List.drop_of_length_le (Nat.le_add_right ..), Nat.add_sub_cancel_left]

theorem StandsAt.front {y : List Byte} (h : StandsAt (x ++ y) d i) : StandsAt x d i := (List.prefix_append ..).trans h

theorem StandsAt.getD (h : StandsAt x d i) {j : Nat} (hj : j < x.length) : d.getD (i + j) 0 = x.getD j 0 := by
  obtain ⟨rest, h⟩ := h
  have read : (d.drop i).getD j 0 = x.getD j 0 := by rw [← h, List.getD_append _ _ _ _ hj]
  simpa [List.getD] using read

theorem StandsAt.take (h : StandsAt x d i) : (d.drop i).take x.length = x := (List.prefix_iff_eq_take.1 h).symm

/-- The whole of a list stands in it at the front. -/
theorem standsAt_self (x : List Byte) : StandsAt x x 0 := List.prefix_rfl

/-- Fields of one length stand one after another. -/
theorem standsAt_flatMap {α : Type} {f : α → List Byte} {k : Nat} (length : ∀ a, (f a).length = k) {l : List α}
    {i : Nat} {a : α} (h : l[i]? = some a) : StandsAt (f a) (l.flatMap f) (k * i) := by
  induction l generalizing i with
  | nil => cases h
  | cons b l ih =>
    rw [List.flatMap_cons]
    cases i with
    | zero =>
      obtain rfl := Option.some.inj h
      exact (standsAt_self _).before _
    | succ i =>
      rw [Nat.mul_succ, Nat.add_comm]
      exact (ih h).after (length b)

/-- What stands in a part of `d`. -/
theorem StandsAt.within {y : List Byte} {j : Nat} (h : StandsAt y d i) (k : StandsAt x y j) : StandsAt x d (i + j) := by
  obtain ⟨rest, h⟩ := h
  unfold StandsAt at k ⊢
  rw [← List.drop_drop, ← h, List.drop_append]
  exact k.trans (List.prefix_append ..)

theorem length_flatMap_uniform {α : Type} {f : α → List Byte} {k : Nat} (length : ∀ a, (f a).length = k) (l : List α) :
    (l.flatMap f).length = k * l.length := by
  rw [List.length_flatMap, List.map_congr_left fun a _ => length a, List.map_const', List.sum_replicate, smul_eq_mul,
    Nat.mul_comm]

/-- A bank's fields stand one after another. -/
theorem standsAt_bank {n : Nat} {α : Type} {f : α → List Byte} {k : Nat} (length : ∀ a, (f a).length = k) (b : Bank n α)
    (j : Fin n) : StandsAt (f (b.get j)) (b.items.flatMap f) (k * j.val) :=
  standsAt_flatMap length (by simp [Bank.get, b.size])

end

/-! ## Layouts (R174) -/

/-- `d` is made of these fields in order, each of its width. -/
def LaidOut (d : List Byte) (widths : List Nat) (fields : List (List Byte)) : Prop :=
  d = fields.flatten ∧ fields.map List.length = widths

/-- A field stands after the fields before it. -/
theorem standsAt_flatten {fields : List (List Byte)} {k : Nat} {x : List Byte} (h : fields[k]? = some x) :
    StandsAt x fields.flatten ((fields.map List.length).take k).sum := by
  induction fields generalizing k with
  | nil => cases h
  | cons a l ih =>
    rw [List.flatten_cons]
    cases k with
    | zero =>
      obtain rfl := Option.some.inj h
      exact (standsAt_self _).before _
    | succ k => exact (ih h).after rfl

section
variable {d : List Byte} {widths : List Nat} {fields : List (List Byte)} (h : LaidOut d widths fields)
include h

theorem LaidOut.field (k : Nat) {x : List Byte} (hx : fields[k]? = some x) : StandsAt x d (widths.take k).sum := by
  obtain ⟨rfl, rfl⟩ := h
  exact standsAt_flatten hx

theorem LaidOut.length : d.length = widths.sum := by
  obtain ⟨rfl, rfl⟩ := h
  exact List.length_flatten ..

end

/-! ## The numbers read back (R167) -/

section
variable {d : List Byte} {i n : Nat}

theorem StandsAt.octet (h : StandsAt [octet n] d i) : at8 d i = n % 256 := by
  have read := h.getD (j := 0) Nat.zero_lt_one
  rw [Nat.add_zero] at read
  rw [at8, read]
  exact octet_toNat n

/-- A number of 8 bits, or an enumerated value's code. -/
theorem StandsAt.small (h : StandsAt [Machine.octet n] d i) (below : n < 256) : at8 d i = n :=
  h.octet.trans (Nat.mod_eq_of_lt below)

theorem StandsAt.flag {b : Bool} (h : StandsAt [flagOctet b] d i) : at8 d i = if b then 1 else 0 := by
  have read := h.getD (j := 0) Nat.zero_lt_one
  rw [Nat.add_zero] at read
  rw [at8, read]
  cases b <;> rfl

theorem StandsAt.slot {o : Option (Fin 128)} (h : StandsAt [slotOctet o] d i) : at8 d i = o.elim 255 Fin.val := by
  cases o with
  | none => exact StandsAt.small (n := 255) h (by decide)
  | some x => exact StandsAt.small h (x.isLt.trans (by decide))

theorem StandsAt.scene {o : Option (Fin 16)} (h : StandsAt [sceneOctet o] d i) : at8 d i = o.elim 255 Fin.val := by
  cases o with
  | none => exact StandsAt.small (n := 255) h (by decide)
  | some x => exact StandsAt.small h (x.isLt.trans (by decide))

/-- The octets after the first stand one place on. -/
theorem StandsAt.tail {a : Byte} {x : List Byte} (h : StandsAt (a :: x) d i) : StandsAt x d (i + 1) := by
  obtain ⟨rest, h⟩ := h
  exact ⟨rest, by rw [← List.tail_drop, ← h]; rfl⟩

theorem StandsAt.head {a : Byte} {x : List Byte} (h : StandsAt (a :: x) d i) : StandsAt [a] d i := by
  obtain ⟨rest, h⟩ := h
  exact ⟨x ++ rest, h⟩

theorem StandsAt.octets2 (h : StandsAt (octets2 n) d i) : at16 d i = n % 65536 := by
  rw [at16, h.head.octet, h.tail.octet]
  omega

theorem StandsAt.octets3 (h : StandsAt (octets3 n) d i) {j : Nat} (next : j = i + 1) :
    at8 d i * 65536 + at16 d j = n % 16777216 := by
  subst next
  rw [h.head.octet, h.tail.octets2]
  omega

theorem StandsAt.octets4 (h : StandsAt (octets4 n) d i) : at32 d i = BitVec.ofNat 32 n := by
  have high : at16 d i = n / 65536 % 65536 := by
    rw [at16, h.head.octet, h.tail.head.octet]
    omega
  have low : at16 d (i + 2) = n % 65536 := h.tail.tail.octets2
  apply BitVec.eq_of_toNat_eq
  rw [at32, high, low, BitVec.toNat_ofNat, BitVec.toNat_ofNat]
  omega

/-- A word of at most 32 bits. -/
theorem StandsAt.word {w : Nat} {v : BitVec w} (h : StandsAt (Machine.octets4 v.toNat) d i) :
    at32 d i = v.setWidth 32 := by
  rw [h.octets4]
  exact BitVec.eq_of_toNat_eq (by simp)

theorem StandsAt.word32 {v : BitVec 32} (h : StandsAt (Machine.octets4 v.toNat) d i) : at32 d i = v :=
  h.word.trans (BitVec.setWidth_eq v)

theorem StandsAt.octets5 (h : StandsAt (octets5 n) d i) {j : Nat} (next : j = i + 1) :
    at8 d i * 4294967296 + (at32 d j).toNat = n % 1099511627776 := by
  subst next
  rw [h.head.octet, h.tail.octets4, BitVec.toNat_ofNat]
  omega

end

/-! ## The codes (R174) -/

theorem holdStateCode_lt (c : HoldState) : holdStateCode c < 256 := by cases c <;> decide
theorem conditionCode_lt (c : Condition) : conditionCode c < 256 := by cases c <;> decide
theorem portStateCode_lt (c : PortState) : portStateCode c < 256 := by cases c <;> decide
theorem turnaroundCode_lt (c : Turnaround) : turnaroundCode c < 256 := by cases c <;> decide
theorem gateCode_lt (c : GateState) : gateCode c < 256 := by cases c <;> decide
theorem phaseCode_lt (c : Phase) : phaseCode c < 256 := by cases c <;> decide
theorem coreStateCode_lt (c : CoreState) : coreStateCode c < 256 := by cases c <;> decide
theorem sceneStateCode_lt (c : SceneState) : sceneStateCode c < 256 := by cases c <;> decide
theorem resultCode_lt (c : CheckResult) : resultCode c < 256 := by cases c <;> exact Nat.le_of_ble_eq_true rfl
theorem reasonCode_lt (c : CheckReason) : reasonCode c < 256 := by cases c <;> decide
theorem cueStateCode_lt (c : CueState) : cueStateCode c < 256 := by cases c <;> decide
theorem guardStateCode_lt (c : GuardState) : guardStateCode c < 256 := by cases c <;> decide

/-- An index of at most 256 values fits its octet. -/
theorem Fin.val_lt_octet {n : Nat} (small : n ≤ 256) (i : Fin n) : i.val < 256 := i.isLt.trans_le small

end Sys2Proof.Machine
end


section
/-!
PROOFS. Settles O51: the layout of each query's data, and the codes (R174, R188).
-/

namespace Sys2Proof.Machine

/-! ## EVENTS_READ (R186, R188, log 28) -/

/-- R186: an event's word has its own bit alone. -/
theorem Event.word_getLsbD (e : Event) (i : Nat) : e.word.getLsbD i = decide (i = e.bit) := by
  have small : e.bit < 23 := by cases e <;> decide
  rw [Event.word, BitVec.getLsbD_ofNat, Nat.testBit_two_pow]
  by_cases same : i = e.bit
  · simp [same, small]
  · simp [same, Ne.symm same]

/-- R186: the live conditions' word. -/
theorem State.liveWord_getLsbD (s : State) (i : Nat) : s.liveWord.getLsbD i = true ↔
    i = 0 ∧ s.chain.leader = false ∧ s.chain.portU.state ≠ .locked ∨ i = 1 ∧ s.chain.portD.state ≠ .locked ∨
    i = 14 ∧ (∃ f, (s.guards.get f).atLimit = true) ∨ i = 19 ∧ s.hold.state ≠ .running := by
  have bit (b : Bool) (e : Event) : (if b then e.word else 0 : BitVec 23).getLsbD i = true ↔ i = e.bit ∧ b = true := by
    cases b <;> simp [Event.word_getLsbD]
  have chainU : s.liveChainU = true ↔ s.chain.leader = false ∧ s.chain.portU.state ≠ .locked := by
    simp [State.liveChainU]
  have chainD : s.liveChainD = true ↔ s.chain.portD.state ≠ .locked := by simp [State.liveChainD]
  have limit : s.liveHowlLimit = true ↔ ∃ f, (s.guards.get f).atLimit = true := Bank.any_iff ..
  have hold : s.liveHold = true ↔ s.hold.state ≠ .running := by simp [State.liveHold]
  rw [← chainU, ← chainD, ← limit, ← hold, State.liveWord]
  simp only [BitVec.getLsbD_or, Bool.or_eq_true, bit, or_assoc]
  rfl

theorem State.eventsData_laidOut (s : State) : LaidOut s.eventsData
    [4, 4, 4, 4, 4, 4, 4, 2, 4, 4, 4, 4, 5, 1, 1, 2, 1, 1]
    [octets4 s.events.latch.toNat, octets4 s.liveWord.toNat, octets4 s.events.mask.toNat, octets4 s.events.badU,
      octets4 s.events.badD, octets4 s.events.broken, octets4 s.events.badMessages, octets2 s.events.dropped,
      octets4 s.events.concealed, octets4 s.events.feedClips, octets4 s.events.coreClips, octets4 s.events.patWords,
      octets5 s.events.patBits, [s.hold.octet], [octet (holdStateCode s.hold.state)], octets2 s.level.hold,
      [flagOctet s.drivesHoldN], [octet (conditionCode s.hold.condition)]] :=
  ⟨by simp [State.eventsData], rfl⟩

/-- R188: the hold source set fits its octet. -/
theorem Hold.octet_fits (h : Hold) : (if h.line then 1 else 0) + (if h.message then 2 else 0) +
    (if h.guard then 4 else 0) + (if h.start then 8 else 0) + (if h.link then 16 else 0) < 256 := by
  split_ifs <;> decide

/-! ## CHAIN_READ, PICKUP_READ, FEED_READ -/

theorem State.chainData_laidOut (s : State) : LaidOut s.chainData [1, 1, 1, 1, 1, 1, 1, 1, 1, 1, 1, 1, 4, 4, 4, 4]
    [[flagOctet s.chain.leader], [octet s.chain.address.val], [octet (portStateCode s.chain.portU.state)],
      [octet s.chain.portU.good], [octet s.chain.portU.bad], [octet (portStateCode s.chain.portD.state)],
      [octet s.chain.portD.good], [octet s.chain.portD.bad], [octet s.chain.lockG], [octet s.chain.lockB],
      [octet (turnaroundCode s.chain.turnaround)], [flagOctet s.chain.discard], octets4 s.chain.switchNo.toNat,
      octets4 s.chain.nextNumber.toNat, octets4 s.events.badU, octets4 s.events.badD] :=
  ⟨by simp [State.chainData, portOctets], rfl⟩

theorem pickupData_laidOut (i : Fin 48) (q : Pickup) : LaidOut (pickupData i q) [1, 1, 1, 2, 2, 1, 2, 1, 1, 1, 2, 1, 3]
    [[octet i.val], [slotOctet q.slot], [flagOctet q.enable], octets2 q.openCode, octets2 q.closeCode, [octet q.hang],
      octets2 q.floorCode, [octet q.attack], [octet q.release], [octet (gateCode q.gate)], octets2 q.level,
      [octet q.hangCount], octets3 q.tickPeak] :=
  ⟨by simp [pickupData], rfl⟩

theorem State.feedData_laidOut (f : Fin 32) (s : State) : LaidOut (s.feedData f) [1, 1, 2, 2, 2]
    [[octet f.val], [slotOctet (s.level.feeds.get f).slot], octets2 (s.level.feeds.get f).trim,
      octets2 (s.level.feeds.get f).trimTarget, octets2 (s.guards.get f).trim] :=
  ⟨by simp [State.feedData], rfl⟩

/-! ## GROUP_READ (R183) -/

/-- R183: the groups a mask selects, in rising order. -/
def chosenGroups (m : BitVec 32) : List (Fin 32) := (List.finRange 32).filter fun i => maskBit m i.val

/-- R183: how many groups below `n` a mask selects. -/
def chosenBelow (m : BitVec 32) (n : Nat) : Nat := ((List.range n).filter fun i => m.getLsbD i).length

theorem chosenGroups_val (m : BitVec 32) :
    (chosenGroups m).map Fin.val = (List.range 32).filter fun i => m.getLsbD i := by
  rw [← List.map_coe_finRange_eq_range, List.filter_map]
  rfl

theorem chosenGroups_length (m : BitVec 32) : (chosenGroups m).length = chosenBelow m 32 := by
  rw [chosenBelow, ← chosenGroups_val, List.length_map]

theorem range_eq_append_cons {i n : Nat} (below : i < n) : ∃ after, List.range n = List.range i ++ i :: after := by
  obtain ⟨k, rfl⟩ := Nat.exists_eq_add_of_lt below
  rw [Nat.add_assoc, List.range_add, List.range_succ_eq_map]
  exact ⟨_, rfl⟩

/-- R183: a selected group comes after the selected groups below it. -/
theorem chosenGroups_getElem? {m : BitVec 32} {i : Fin 32} (chosen : m.getLsbD i.val = true) :
    (chosenGroups m)[chosenBelow m i.val]? = some i := by
  obtain ⟨after, split⟩ := range_eq_append_cons i.isLt
  have val : ((chosenGroups m).map Fin.val)[chosenBelow m i.val]? = some i.val := by
    rw [chosenGroups_val, split, List.filter_append, List.filter_cons_of_pos chosen, chosenBelow,
      List.getElem?_append_right le_rfl, Nat.sub_self]
    rfl
  rw [List.getElem?_map] at val
  obtain ⟨j, found, same⟩ := Option.map_eq_some_iff.1 val
  rw [found, Fin.ext same]

theorem groupOctets_laidOut (g : Group) : LaidOut (groupOctets g) [2, 2, 1, 1]
    [octets2 g.current, octets2 g.target, [octet g.rate], [octet (phaseCode g.phase)]] :=
  ⟨by simp [groupOctets], rfl⟩

theorem groupData_laidOut (m : BitVec 32) (gs : Bank 32 Group) : LaidOut (groupData m gs) [4, 6 * chosenBelow m 32]
    [octets4 m.toNat, (chosenGroups m).flatMap fun i => groupOctets (gs.get i)] := by
  refine ⟨by simp [groupData, chosenGroups], ?_⟩
  rw [List.map_cons, List.map_singleton, length_flatMap_uniform fun i => (groupOctets_laidOut (gs.get i)).length,
    chosenGroups_length]
  rfl

/-- R174, R183: one selected group's octets. -/
theorem groupData_group {m : BitVec 32} (gs : Bank 32 Group) {i : Fin 32} (chosen : m.getLsbD i.val = true) :
    StandsAt (groupOctets (gs.get i)) (groupData m gs) (4 + 6 * chosenBelow m i.val) :=
  ((groupData_laidOut m gs).field 1 rfl).within
    (standsAt_flatMap (fun j => (groupOctets_laidOut (gs.get j)).length) (chosenGroups_getElem? chosen))

/-! ## CORE_READ, SCENE_READ, TAP_READ -/

theorem coreData_laidOut (i : Fin 4) (c : RevCore) : LaidOut (coreData i c) [1, 1, 16, 2, 1, 1, 24]
    [[octet i.val], [octet (coreStateCode c.state)], c.lengths.items.flatMap octets2, octets2 c.lengths.items.sum,
      [octet c.clearCount], [octet c.inUse.damping], c.inUse.absorption.items.flatMap octets3] := by
  refine ⟨by simp [coreData], ?_⟩
  simp [length_flatMap_uniform octets2_length, length_flatMap_uniform octets3_length, Bank.size]

theorem failureOctets_length (r : CheckResult) : (failureOctets r).length = 3 := by cases r <;> rfl

theorem State.sceneData_laidOut (i : Fin 16) (s : State) : LaidOut (s.sceneData i) [1, 1, 2, 1, 2, 8, 4, 1, 3, 2, 1]
    [[octet i.val], [octet (sceneStateCode (s.scenes.get i).state)], octets2 (s.scenes.get i).taps.length,
      [octet (s.scenes.get i).header.fadeCode], octets2 (s.scenes.get i).header.wander,
      (s.scenes.get i).header.decay.items.flatMap octets2,
      (s.scenes.get i).header.damping.items.flatMap fun x => [octet x], [octet (resultCode (s.scenes.get i).result)],
      failureOctets (s.scenes.get i).result, octets2 (s.checkNext i), [flagOctet (s.cue.target == some i)]] := by
  refine ⟨by simp [State.sceneData, Scene.tapCount, List.map_eq_flatMap], ?_⟩
  simp [length_flatMap_uniform octets2_length, failureOctets_length, Bank.size]

/-- R106: the next index of the scene's check. -/
theorem State.checkNext_running {s : State} {r : CheckRun} (runs : s.check = some r) :
    s.checkNext r.scene = r.next := by
  simp [State.checkNext, runs]

theorem State.checkNext_other {s : State} {i : Fin 16} (other : s.check.map CheckRun.scene ≠ some i) :
    s.checkNext i = 0 := by
  unfold State.checkNext
  split
  · rename_i r runs
    exact if_neg fun same => other (by rw [runs, ← same]; rfl)
  · rfl

theorem tapOctets_length (t : Tap) : (tapOctets t).length = 8 := rfl

theorem tapReadData_laidOut (i : Fin 16) (first : Nat) (ts : List Tap) :
    LaidOut (tapReadData i first ts) [1, 2, 1, 8 * ts.length]
      [[octet i.val], octets2 first, [octet ts.length], ts.flatMap tapOctets] := by
  refine ⟨by simp [tapReadData], ?_⟩
  simp [length_flatMap_uniform tapOctets_length]

/-! ## CUE_READ, GUARD_READ, PATTERN_READ -/

theorem State.cueData_laidOut (s : State) : LaidOut s.cueData [1, 1, 1, 4, 1, 1, 1, 2, 2, 1, 2, 2]
    [[octet (cueStateCode s.cue.state)], [sceneOctet s.cue.target], [flagOctet s.targetOutgoing],
      octets4 s.cue.frameX.toNat, [flagOctet s.cue.immediate], [sceneOctet (s.sceneIn .active)],
      [sceneOctet (s.sceneIn .outgoing)], octets2 s.cue.weight, octets2 s.cue.stepSize, [flagOctet s.cue.silence],
      octets2 (s.cue.wanderActive.getD 0), octets2 (s.cue.wanderOutgoing.getD 0)] :=
  ⟨by simp [State.cueData], rfl⟩

/-- R131: the mark of a target that is the OUTGOING scene. -/
theorem State.targetOutgoing_iff (s : State) : s.targetOutgoing = true ↔
    ∃ i, s.cue.target = some i ∧ (s.scenes.get i).state = .outgoing := by
  unfold State.targetOutgoing
  split
  · rename_i i target
    simp [target]
  · rename_i target
    simp [target]

/-- R99: the scene that is found in a state stands in it, and none does when none is found. -/
theorem State.sceneIn_spec (s : State) (st : SceneState) : (∀ i, s.sceneIn st = some i → (s.scenes.get i).state = st) ∧
    (s.sceneIn st = none → ∀ i, (s.scenes.get i).state ≠ st) := by
  refine ⟨fun i found => ?_, fun none i => ?_⟩
  · simpa using List.find?_some found
  · simpa using List.find?_eq_none.1 none i (List.mem_finRange i)

theorem guardData_laidOut (f : Fin 32) (g : Guard) :
    LaidOut (guardData f g) [1, 1, 2, 1, 1, 2, 2, 1, 1, 1, 2, 1, 3, 1, 2, 1]
      [[octet f.val], [flagOctet g.enable], octets2 g.floorCode, [octet g.rise], [octet g.cutStep], octets2 g.limit,
        octets2 g.quietHold, [octet g.interval], [flagOctet g.escalate], [octet (guardStateCode g.state)],
        octets2 g.trim, [octet g.run], octets3 g.prevPeak, [octet g.settle], octets2 g.timer, [octet g.count]] :=
  ⟨by simp [guardData], rfl⟩

theorem State.patternData_laidOut (s : State) : LaidOut s.patternData [1, 1, 1, 1, 1, 1, 1, 4, 5, 2]
    [[flagOctet s.pattern.genOn], [octet s.pattern.genSlot.val], [flagOctet s.pattern.chkOn],
      [octet s.pattern.chkSlot.val], [flagOctet s.pattern.inSync], [octet s.pattern.goodRun],
      [octet s.pattern.mismatchRun], octets4 s.events.patWords, octets5 s.events.patBits,
      octets2 s.pattern.threshold] :=
  ⟨by simp [State.patternData], rfl⟩

/-! ## The statement -/

/-- Settles O51: each field of each layout read back, query by query, then the codes. -/
theorem replyDataLayouts : Obligations.ReplyDataLayouts := by
  refine ⟨fun s => ?_, fun s => ?_, fun i q => ?_, fun f s => ?_, fun m gs => ?_, fun i c => ?_, fun i s => ?_,
    fun i first ts => ?_, fun s => ?_, State.sceneIn_spec, fun f g => ?_, fun s => ?_,
    rfl, rfl, rfl, rfl, fun _ _ => rfl, rfl, rfl, rfl, rfl, rfl, rfl, rfl⟩
  · have h := s.eventsData_laidOut
    refine ⟨h.length, (h.field 0 rfl).word, fun i hi => ?_, (h.field 2 rfl).word, (h.field 3 rfl).octets4,
      (h.field 4 rfl).octets4, (h.field 5 rfl).octets4, (h.field 6 rfl).octets4, (h.field 7 rfl).octets2,
      (h.field 8 rfl).octets4, (h.field 9 rfl).octets4, (h.field 10 rfl).octets4, (h.field 11 rfl).octets4,
      (h.field 12 rfl).octets5 rfl, (h.field 13 rfl).small s.hold.octet_fits,
      (h.field 14 rfl).small (holdStateCode_lt _), (h.field 15 rfl).octets2, (h.field 16 rfl).flag,
      (h.field 17 rfl).small (conditionCode_lt _)⟩
    have live : at32 s.eventsData 4 = s.liveWord.setWidth 32 := (h.field 1 rfl).word
    rw [live, BitVec.getLsbD_setWidth, decide_eq_true hi, Bool.true_and, State.liveWord_getLsbD]
  · have h := s.chainData_laidOut
    exact ⟨h.length, (h.field 0 rfl).flag, (h.field 1 rfl).small (Fin.val_lt_octet (by decide) _),
      (h.field 2 rfl).small (portStateCode_lt _), (h.field 3 rfl).octet, (h.field 4 rfl).octet,
      (h.field 5 rfl).small (portStateCode_lt _), (h.field 6 rfl).octet, (h.field 7 rfl).octet, (h.field 8 rfl).octet,
      (h.field 9 rfl).octet, (h.field 10 rfl).small (turnaroundCode_lt _), (h.field 11 rfl).flag,
      (h.field 12 rfl).word32, (h.field 13 rfl).word32, (h.field 14 rfl).octets4, (h.field 15 rfl).octets4⟩
  · have h := pickupData_laidOut i q
    exact ⟨h.length, (h.field 0 rfl).small (Fin.val_lt_octet (by decide) _), (h.field 1 rfl).slot, (h.field 2 rfl).flag,
      (h.field 3 rfl).octets2, (h.field 4 rfl).octets2, (h.field 5 rfl).octet, (h.field 6 rfl).octets2,
      (h.field 7 rfl).octet, (h.field 8 rfl).octet, (h.field 9 rfl).small (gateCode_lt _), (h.field 10 rfl).octets2,
      (h.field 11 rfl).octet, (h.field 12 rfl).octets3 rfl⟩
  · have h := s.feedData_laidOut f
    exact ⟨h.length, (h.field 0 rfl).small (Fin.val_lt_octet (by decide) _), (h.field 1 rfl).slot,
      (h.field 2 rfl).octets2, (h.field 3 rfl).octets2, (h.field 4 rfl).octets2⟩
  · have h := groupData_laidOut m gs
    refine ⟨(h.field 0 rfl).word32, h.length, fun i chosen => ?_⟩
    have stands := groupData_group gs chosen
    have g := groupOctets_laidOut (gs.get i)
    exact ⟨(stands.within (g.field 0 rfl)).octets2, (stands.within (g.field 1 rfl)).octets2,
      (stands.within (g.field 2 rfl)).octet, (stands.within (g.field 3 rfl)).small (phaseCode_lt _)⟩
  · have h := coreData_laidOut i c
    have lengths (l : Fin 8) := (h.field 2 rfl).within (standsAt_bank octets2_length c.lengths l)
    have absorptions (l : Fin 8) := (h.field 6 rfl).within (standsAt_bank octets3_length c.inUse.absorption l)
    exact ⟨h.length, (h.field 0 rfl).small (Fin.val_lt_octet (by decide) _), (h.field 1 rfl).small (coreStateCode_lt _),
      fun l => (lengths l).octets2, (h.field 3 rfl).octets2, (h.field 4 rfl).octet, (h.field 5 rfl).octet,
      fun l => (absorptions l).octets3 (Nat.add_right_comm 22 1 _)⟩
  · have h := s.sceneData_laidOut i
    have decays (c : Fin 4) := (h.field 5 rfl).within (standsAt_bank octets2_length (s.scenes.get i).header.decay c)
    have dampings (c : Fin 4) := (h.field 6 rfl).within
      (standsAt_bank (fun x => (rfl : [octet x].length = 1)) (s.scenes.get i).header.damping c)
    have next : at16 (s.sceneData i) 23 = s.checkNext i % 65536 := (h.field 9 rfl).octets2
    have failure : StandsAt (failureOctets (s.scenes.get i).result) (s.sceneData i) 20 := h.field 8 rfl
    refine ⟨h.length, (h.field 0 rfl).small (Fin.val_lt_octet (by decide) _),
      (h.field 1 rfl).small (sceneStateCode_lt _), (h.field 2 rfl).octets2, (h.field 3 rfl).octet,
      (h.field 4 rfl).octets2, fun c => ⟨(decays c).octets2, ?_⟩, (h.field 7 rfl).small (resultCode_lt _),
      fun n why failed => ?_, fun passed => ?_, fun r runs same => ?_, fun other => ?_, ?_⟩
    · have damping := (dampings c).octet
      rwa [Nat.one_mul] at damping
    · have failure : StandsAt (octets2 n ++ [octet (reasonCode why)]) (s.sceneData i) 20 := by rwa [failed] at failure
      exact ⟨failure.front.octets2, failure.tail.tail.small (reasonCode_lt why)⟩
    · have none : StandsAt (octets2 0 ++ [0]) (s.sceneData i) 20 := by
        cases result : (s.scenes.get i).result with
        | failed n why => exact absurd result (passed n why)
        | none | passed => rwa [result] at failure
      exact ⟨none.front.octets2, StandsAt.octet (n := 0) none.tail.tail⟩
    · subst same
      rw [next, State.checkNext_running runs]
    · rw [next, State.checkNext_other other]
    · have flag := (h.field 10 rfl).flag
      simpa using flag
  · have h := tapReadData_laidOut i first ts
    refine ⟨h.length.trans ?_, (h.field 0 rfl).small (Fin.val_lt_octet (by decide) _), (h.field 1 rfl).octets2,
      (h.field 2 rfl).octet, fun j t tap => ?_⟩
    · simp only [List.sum_cons, List.sum_nil]
      omega
    · exact ((h.field 3 rfl).within (standsAt_flatMap tapOctets_length tap)).take
  · have h := s.cueData_laidOut
    have outgoing : at8 s.cueData 2 = if s.targetOutgoing then 1 else 0 := (h.field 2 rfl).flag
    refine ⟨h.length, (h.field 0 rfl).small (cueStateCode_lt _), (h.field 1 rfl).scene, ?_, ?_, (h.field 3 rfl).word32,
      (h.field 4 rfl).flag, (h.field 5 rfl).scene, (h.field 6 rfl).scene, (h.field 7 rfl).octets2,
      (h.field 8 rfl).octets2, (h.field 9 rfl).flag, (h.field 10 rfl).octets2, (h.field 11 rfl).octets2⟩
    · rw [outgoing, ← State.targetOutgoing_iff]
      cases s.targetOutgoing <;> simp
    · rw [outgoing]
      split <;> decide
  · have h := guardData_laidOut f g
    exact ⟨h.length, (h.field 0 rfl).small (Fin.val_lt_octet (by decide) _), (h.field 1 rfl).flag,
      (h.field 2 rfl).octets2, (h.field 3 rfl).octet, (h.field 4 rfl).octet, (h.field 5 rfl).octets2,
      (h.field 6 rfl).octets2, (h.field 7 rfl).octet, (h.field 8 rfl).flag, (h.field 9 rfl).small (guardStateCode_lt _),
      (h.field 10 rfl).octets2, (h.field 11 rfl).octet, (h.field 12 rfl).octets3 rfl, (h.field 13 rfl).octet,
      (h.field 14 rfl).octets2, (h.field 15 rfl).octet⟩
  · have h := s.patternData_laidOut
    exact ⟨h.length, (h.field 0 rfl).flag, (h.field 1 rfl).small (Fin.val_lt_octet (by decide) _), (h.field 2 rfl).flag,
      (h.field 3 rfl).small (Fin.val_lt_octet (by decide) _), (h.field 4 rfl).flag, (h.field 5 rfl).octet,
      (h.field 6 rfl).octet, (h.field 7 rfl).octets4, (h.field 8 rfl).octets5 rfl, (h.field 9 rfl).octets2⟩

end Sys2Proof.Machine
end

section
/-!
PROOFS. What a command other than a reset keeps of the latches, the masks and the counters (R180, R182, R186 to R188), of
the slots held (R178) and of the checker (R191, R192), as one relation between the state before and the state after.
-/

namespace Sys2Proof.Machine

/-! ## One counter, one event -/

/-- R188: a counter with greatest value `top` stays within it, and is not lowered when `kept`. -/
def CounterStands (kept : Prop) (top old new : Nat) : Prop := old ≤ top → new ≤ top ∧ (kept → old ≤ new)

theorem CounterStands.refl {kept : Prop} {top n : Nat} : CounterStands kept top n n := fun h => ⟨h, fun _ => le_rfl⟩

theorem CounterStands.trans {kept : Prop} {top a b c : Nat} (h : CounterStands kept top a b)
    (k : CounterStands kept top b c) : CounterStands kept top a c := fun within => by
  obtain ⟨hb, raised⟩ := h within
  obtain ⟨hc, raised'⟩ := k hb
  exact ⟨hc, fun hk => (raised hk).trans (raised' hk)⟩

theorem CounterStands.countUp {kept : Prop} {top old n : Nat} : CounterStands kept top old (countUp top old n) :=
  fun within => ⟨countUp_le top old n, fun _ => le_countUp within n⟩

/-! ## The Event Unit -/

/-- R186 to R188: command `c` only adds latches unless it is EVENTS_CLEAR, keeps the masks unless it is EVENTS_MASK, and
lowers no counter, but for PATTERN_READ the two pattern counts. -/
structure Events.AccruesTo (c : Instr) (a b : Events) : Prop where
  latch : (∀ k, c ≠ .eventsClear k) → a.latch &&& b.latch = a.latch
  mask : (∀ k, c ≠ .eventsMask k) → b.mask = a.mask
  badU : CounterStands True top32 a.badU b.badU
  badD : CounterStands True top32 a.badD b.badD
  broken : CounterStands True top32 a.broken b.broken
  badMessages : CounterStands True top32 a.badMessages b.badMessages
  dropped : CounterStands True top16 a.dropped b.dropped
  concealed : CounterStands True top32 a.concealed b.concealed
  feedClips : CounterStands True top32 a.feedClips b.feedClips
  coreClips : CounterStands True top32 a.coreClips b.coreClips
  patWords : CounterStands (∀ k, c ≠ .patternRead k) top32 a.patWords b.patWords
  patBits : CounterStands (∀ k, c ≠ .patternRead k) top40 a.patBits b.patBits

variable {c : Instr}

theorem Events.AccruesTo.refl (a : Events) : a.AccruesTo c a where
  latch _ := BitVec.and_self
  mask _ := rfl
  badU := .refl
  badD := .refl
  broken := .refl
  badMessages := .refl
  dropped := .refl
  concealed := .refl
  feedClips := .refl
  coreClips := .refl
  patWords := .refl
  patBits := .refl

theorem Events.AccruesTo.trans {x y z : Events} (h : x.AccruesTo c y) (k : y.AccruesTo c z) : x.AccruesTo c z where
  latch hc := by rw [← h.latch hc, BitVec.and_assoc, k.latch hc]
  mask hc := (k.mask hc).trans (h.mask hc)
  badU := h.badU.trans k.badU
  badD := h.badD.trans k.badD
  broken := h.broken.trans k.broken
  badMessages := h.badMessages.trans k.badMessages
  dropped := h.dropped.trans k.dropped
  concealed := h.concealed.trans k.concealed
  feedClips := h.feedClips.trans k.feedClips
  coreClips := h.coreClips.trans k.coreClips
  patWords := h.patWords.trans k.patWords
  patBits := h.patBits.trans k.patBits

/-- R187: a latch set stands beside those that were. -/
theorem Events.AccruesTo.set (a : Events) (e : Event) : a.AccruesTo c (a.set e) :=
  { Events.AccruesTo.refl a with latch := fun _ => by ext i; simp +contextual [Events.set] }

/-- R187: EVENTS_CLEAR clears latches alone. -/
theorem Events.AccruesTo.clear (t : Taking) (m : BitVec 32) (a : Events) :
    a.AccruesTo (.eventsClear t) (a.clear m) :=
  { Events.AccruesTo.refl a with latch := fun other => absurd rfl (other t) }

/-- R187: EVENTS_MASK sets masks alone. -/
theorem Events.AccruesTo.remask (t : Taking) (m : BitVec 32) (a : Events) :
    a.AccruesTo (.eventsMask t) (a.remask m) :=
  { Events.AccruesTo.refl a with mask := fun other => absurd rfl (other t) }

/-- R182: PATTERN_READ clears the checker's counts alone. -/
theorem Events.AccruesTo.clearPattern (t : Taking) (a : Events) :
    a.AccruesTo (.patternRead t) { a with patWords := 0, patBits := 0 } :=
  { Events.AccruesTo.refl a with
    patWords := fun _ => ⟨Nat.zero_le _, fun other => absurd rfl (other t)⟩
    patBits := fun _ => ⟨Nat.zero_le _, fun other => absurd rfl (other t)⟩ }

/-- R188: what accrues stays within the widths. -/
theorem Events.AccruesTo.lawful {a b : Events} (h : a.AccruesTo c b) (law : a.Lawful) : b.Lawful := by
  obtain ⟨badU, badD, broken, badMessages, dropped, concealed, feedClips, coreClips, patWords, patBits⟩ := law
  exact ⟨(h.badU badU).1, (h.badD badD).1, (h.broken broken).1, (h.badMessages badMessages).1, (h.dropped dropped).1,
    (h.concealed concealed).1, (h.feedClips feedClips).1, (h.coreClips coreClips).1, (h.patWords patWords).1,
    (h.patBits patBits).1⟩

/-! ## The checker -/

/-- R191, R192: the checker's runs and threshold in range, and an off checker SEEKING. -/
def Pattern.CheckerLawful (p : Pattern) : Prop :=
  p.goodRun ≤ 8 ∧ p.mismatchRun ≤ 8 ∧ 1 ≤ p.threshold ∧ p.threshold ≤ 65535 ∧ (p.chkOn = false → p.inSync = false)

theorem State.countLaw_iff (s : State) : s.CountLaw ↔ s.events.Lawful ∧ s.pattern.CheckerLawful := Iff.rfl

theorem Pattern.CheckerLawful.generate {p : Pattern} (h : p.CheckerLawful) : p.generate.CheckerLawful := by
  unfold Pattern.generate
  split <;> exact h

theorem Pattern.CheckerLawful.seek {p : Pattern} (h : p.CheckerLawful) (word : Sample) :
    (p.seek word).CheckerLawful := by
  obtain ⟨-, -, low, high, -⟩ := h
  exact ⟨Nat.zero_le _, Nat.zero_le _, low, high, fun _ => rfl⟩

/-- R191: a run that reaches 8 ends, so neither passes it. -/
theorem Pattern.CheckerLawful.judge {p : Pattern} (h : p.CheckerLawful) (on : p.chkOn = true) (m : FrameNo)
    (word : Sample) : (p.judge m word).CheckerLawful := by
  obtain ⟨good, mismatch, low, high, -⟩ := h
  have off {x : Bool} : p.chkOn = false → x = false := fun h => absurd (h.symm.trans on) (by decide)
  unfold Pattern.judge
  dsimp only
  split
  · split
    · exact ⟨good, Nat.zero_le _, low, high, off⟩
    · split
      · exact Pattern.CheckerLawful.seek ⟨good, mismatch, low, high, off⟩ word
      · exact ⟨good, by dsimp only; omega, low, high, off⟩
  · split
    · split
      · exact ⟨Nat.zero_le _, Nat.zero_le _, low, high, off⟩
      · exact ⟨by dsimp only; omega, mismatch, low, high, off⟩
    · exact ⟨Nat.zero_le _, mismatch, low, high, off⟩

theorem Pattern.CheckerLawful.take {p : Pattern} (h : p.CheckerLawful) (m : FrameNo) (word : Sample) :
    (p.take m word).CheckerLawful := by
  unfold Pattern.take
  split
  · have judged : (if p.reseeds m then p.seek word else p.judge m word).CheckerLawful := by
      split
      · exact h.seek word
      · exact h.judge ‹_› m word
    exact judged
  · exact h

/-- R192: PATTERN_SET sets a threshold in range, and turning the checker off ends its sync. -/
theorem Pattern.CheckerLawful.configure {p : Pattern} (h : p.CheckerLawful) {q : PatternParams}
    (range : 1 ≤ q.threshold ∧ q.threshold ≤ 65535) : (p.configure q).CheckerLawful := by
  obtain ⟨good, mismatch, -, -, -⟩ := h
  unfold Pattern.configure
  refine ⟨?_, ?_, range.1, range.2, fun off => ?_⟩
  · dsimp only
    split
    · exact good
    · exact Nat.zero_le _
  · dsimp only
    split
    · exact mismatch
    · exact Nat.zero_le _
  · dsimp only at off ⊢
    rw [off, Bool.false_and]

/-! ## The slots (R178) -/

/-- What the slot law reads: the slot each feed holds, and the generator's switch and slot. -/
def State.slotView (s : State) : (Fin 32 → Option (Fin 128)) × Bool × Fin 128 :=
  (fun f => (s.level.feeds.get f).slot, s.pattern.genOn, s.pattern.genSlot)

theorem State.SlotLaw.reads {s t : State} (h : s.SlotLaw) (same : t.slotView = s.slotView) : t.SlotLaw := by
  simp only [State.slotView, Prod.mk.injEq] at same
  obtain ⟨feeds, on, slot⟩ := same
  have feed (f : Fin 32) : (t.level.feeds.get f).slot = (s.level.feeds.get f).slot := congrFun feeds f
  simp only [State.SlotLaw, feed, on, slot]
  exact h

/-- R28, R178: a feed takes a slot that no other feed holds, nor the generator while it is on. -/
theorem State.SlotLaw.setFeed {s : State} (h : s.SlotLaw) {f : Fin 32} {slot : Option (Fin 128)}
    (free : s.feedSlotTaken f slot = false) (trim : Nat) : State.SlotLaw { s with
      level := { s.level with feeds := s.level.feeds.modify f (Feed.configure slot trim) } } := by
  obtain ⟨apart, generator⟩ := h
  have untaken := mt (State.feedSlotTaken_iff f slot s).2 (Bool.eq_false_iff.1 free)
  have alone {g : Fin 32} (hg : g ≠ f) (held : (s.level.feeds.get g).slot = slot) : slot = none :=
    Option.eq_none_iff_forall_ne_some.2 fun x hx => untaken ⟨x, hx, .inl ⟨g, hg, held.trans hx⟩⟩
  have own : ((s.level.feeds.modify f (Feed.configure slot trim)).get f).slot = slot := by
    rw [Bank.get_modify_self]
    rfl
  have other {g : Fin 32} (hg : g ≠ f) : ((s.level.feeds.modify f (Feed.configure slot trim)).get g).slot =
      (s.level.feeds.get g).slot := by rw [Bank.get_modify_of_ne _ hg]
  refine ⟨fun i j same => ?_, fun on g => ?_⟩
  · dsimp only at same ⊢
    by_cases hi : i = f <;> by_cases hj : j = f
    · exact .inl (hi.trans hj.symm)
    · rw [hi, own, other hj] at same
      rw [hi, own]
      exact .inr (alone hj same.symm)
    · rw [hj, own, other hi] at same
      rw [other hi]
      exact .inr (same.trans (alone hi same))
    · rw [other hi, other hj] at same
      rw [other hi]
      exact apart i j same
  · dsimp only at on ⊢
    by_cases hg : g = f
    · rw [hg, own]
      exact fun held => untaken ⟨_, held, .inr ⟨on, rfl⟩⟩
    · rw [other hg]
      exact generator on g

/-- R178, R182: the generator is turned on in a slot that no feed holds. -/
theorem State.SlotLaw.setPattern {s : State} (h : s.SlotLaw) {q : PatternParams}
    (free : (q.genOn && s.level.slotHeld q.genSlot) = false) :
    State.SlotLaw { s with pattern := s.pattern.configure q } := by
  refine ⟨h.1, fun on f held => ?_⟩
  have on : q.genOn = true := on
  have taken : s.level.slotHeld q.genSlot = true := (Level.slotHeld_iff _ _).2 ⟨f, held⟩
  rw [on, taken] at free
  cases free

/-! ## The state -/

/-- What command `c` keeps: latches, masks and counters as R186 to R188 say, the slot law and the checker's ranges. -/
structure State.AccruesTo (c : Instr) (s t : State) : Prop where
  events : s.events.AccruesTo c t.events
  slots : s.SlotLaw → t.SlotLaw
  checker : s.pattern.CheckerLawful → t.pattern.CheckerLawful

/-- The slots of the feeds, the pattern unit and the Event Unit. -/
def State.countView (s : State) : (Fin 32 → Option (Fin 128)) × Pattern × Events :=
  (fun f => (s.level.feeds.get f).slot, s.pattern, s.events)

variable {s t u : State}

theorem State.AccruesTo.refl (s : State) : s.AccruesTo c s := ⟨.refl _, id, id⟩

theorem State.AccruesTo.trans (h : s.AccruesTo c t) (k : t.AccruesTo c u) : s.AccruesTo c u :=
  ⟨h.events.trans k.events, k.slots ∘ h.slots, k.checker ∘ h.checker⟩

/-- A change of the Event Unit beside what none of the three reads. -/
theorem State.AccruesTo.counted (h : s.events.AccruesTo c t.events) (same : t.level = s.level ∧ t.pattern = s.pattern) :
    s.AccruesTo c t := by
  obtain ⟨level, pattern⟩ := same
  refine ⟨h, fun law => law.reads ?_, fun law => pattern ▸ law⟩
  simp only [State.slotView, level, pattern]

/-- Followed by what none of the three reads. -/
theorem State.AccruesTo.then_view (h : s.AccruesTo c t) (same : u.countView = t.countView) : s.AccruesTo c u := by
  simp only [State.countView, Prod.mk.injEq] at same
  obtain ⟨feeds, pattern, events⟩ := same
  refine ⟨events ▸ h.events, fun law => (h.slots law).reads ?_, pattern ▸ h.checker⟩
  simp only [State.slotView, pattern, feeds]

theorem State.AccruesTo.of_view (same : t.countView = s.countView) : s.AccruesTo c t :=
  (State.AccruesTo.refl s).then_view same

/-- The same, before an operation. -/
theorem State.AccruesTo.from_view (k : t.AccruesTo c u) (same : t.countView = s.countView) : s.AccruesTo c u :=
  (State.AccruesTo.of_view same).trans k

theorem State.AccruesTo.latch {e : Event} (h : s.AccruesTo c t) : s.AccruesTo c (t.latch e) :=
  h.trans (.counted (.set _ e) ⟨rfl, rfl⟩)

theorem State.AccruesTo.latchIf {b : Bool} {e : Event} (h : s.AccruesTo c t) : s.AccruesTo c (t.latchIf b e) := by
  unfold State.latchIf
  split
  · exact h.latch
  · exact h

/-- The slot law and the count law follow. -/
theorem State.AccruesTo.laws (h : s.AccruesTo c t) (law : s.SlotLaw ∧ s.CountLaw) : t.SlotLaw ∧ t.CountLaw := by
  obtain ⟨slots, count⟩ := law
  obtain ⟨events, checker⟩ := s.countLaw_iff.1 count
  exact ⟨h.slots slots, t.countLaw_iff.2 ⟨h.events.lawful events, h.checker checker⟩⟩

end Sys2Proof.Machine
end

section
/-!
PROOFS. What the shared operations keep of the latches, the counters, the slots and the checker (`State.AccruesTo`): the
lane, a computation, the loss of the upstream side, and the frame periods.
-/

namespace Sys2Proof.Machine

variable {c : Instr} {s : State}

/-! ## The lane (R156 to R165) -/

theorem State.accruesTo_offer (i : Fin 16) (k t : Byte) (p : List Byte) (b : Bool) :
    s.AccruesTo c (s.offer i k t p b) := by
  rcases s.offer_cases i k t p b with ⟨-, e⟩ | ⟨-, e⟩ <;> rw [e]
  · exact .of_view rfl
  · exact .latch (.counted { Events.AccruesTo.refl s.events with dropped := .countUp } ⟨rfl, rfl⟩)

theorem State.accruesTo_breakMessage {i : Fin 16} : s.AccruesTo c (s.breakMessage i) :=
  .latch (.counted { Events.AccruesTo.refl s.events with broken := .countUp } ⟨rfl, rfl⟩)

theorem State.accruesTo_completeMessage {i : Fin 16} {o : List Byte} {n d : Nat} {b : Bool} :
    s.AccruesTo c (s.completeMessage i o n d b) := by
  rcases s.completeMessage_cases i o n d b with ⟨-, e⟩ | ⟨-, e⟩ | e <;> rw [e]
  · exact State.accruesTo_offer ..
  · exact .refl s
  · exact .latch (.counted { Events.AccruesTo.refl s.events with badMessages := .countUp } ⟨rfl, rfl⟩)

theorem State.accruesTo_idleTakes {i : Fin 16} {f : FrameNo} {g : Segment} : s.AccruesTo c (s.idleTakes i f g) := by
  unfold State.idleTakes
  cases markOf g.mark
  case only =>
    dsimp only
    split
    · exact State.accruesTo_completeMessage
    · exact .refl s
  case first =>
    dsimp only
    split
    · split
      · exact State.accruesTo_breakMessage
      · exact .of_view rfl
    · exact .refl s
  all_goals exact .refl s

theorem State.accruesTo_assemblyTakes {i : Fin 16} {a : Assembly} {f : FrameNo} {g : Segment} :
    s.AccruesTo c (s.assemblyTakes i a f g) := by
  have broken : s.AccruesTo c ((s.breakMessage i).idleTakes i f g) :=
    State.accruesTo_breakMessage.trans State.accruesTo_idleTakes
  unfold State.assemblyTakes
  split
  · exact broken
  · cases markOf g.mark
    case more =>
      dsimp only
      split
      · exact .of_view rfl
      · exact broken
    case last => exact State.accruesTo_completeMessage.from_view rfl
    all_goals exact broken

theorem State.accruesTo_readSegment (f : FrameNo) (g : Segment) : s.AccruesTo c (s.readSegment f g) := by
  have marked : s.AccruesTo c (s.setRecord f true) := .of_view rfl
  unfold State.readSegment State.takeSegment
  split
  · exact .refl s
  · split
    · exact marked
    · split
      · exact marked.trans State.accruesTo_idleTakes
      · exact marked.trans State.accruesTo_assemblyTakes

theorem State.accruesTo_takeLoss {f : FrameNo} : s.AccruesTo c (s.takeLoss f) := by
  have marked : s.AccruesTo c (s.setRecord f false) := .of_view rfl
  unfold State.takeLoss State.loseSegment
  split
  · exact .refl s
  · split
    · exact marked
    · split
      · exact marked
      · exact marked.trans State.accruesTo_breakMessage

theorem State.accruesTo_breakContexts : s.AccruesTo c s.breakContexts :=
  .latchIf (.counted { Events.AccruesTo.refl s.events with broken := .countUp } ⟨rfl, rfl⟩)

/-- R163, R165: the writes latch a clash, or send a reply's segment. -/
theorem State.accruesTo_afterWrites (f : Frame) : s.AccruesTo c (s.afterWrites f) := by
  have clashed : s.AccruesTo c (s.latch .addressClash) := (State.AccruesTo.refl s).latch
  unfold State.afterWrites
  split
  · rw [State.noteClash, if_pos ‹_›]
    exact clashed.then_view (by simp [State.countView])
  · split
    · exact .of_view (by simp [State.countView])
    · exact .refl s

/-! ## The hold state and the upstream side (R15, R36, R147) -/

theorem State.accruesTo_formHold : s.AccruesTo c s.formHold := .latchIf (.of_view rfl)

theorem State.accruesTo_holdAtOnce : s.AccruesTo c s.holdAtOnce := State.accruesTo_formHold.from_view rfl

theorem State.accruesTo_isolate : s.AccruesTo c s.isolate := by
  unfold State.isolate
  split
  · exact State.accruesTo_holdAtOnce.from_view rfl
  · exact .of_view rfl
  · exact .of_view rfl

theorem State.accruesTo_unlockU {p : PortRx} : s.AccruesTo c (s.unlockU p) := by
  have unlocking : s.AccruesTo c (s.unlocking p) := (State.AccruesTo.refl s).latch.then_view rfl
  rw [State.unlockU_eq]
  exact (unlocking.trans State.accruesTo_isolate).trans State.accruesTo_breakContexts

theorem State.accruesTo_enterQuiet : s.AccruesTo c s.enterQuiet :=
  State.accruesTo_holdAtOnce.from_view (by simp [State.countView])

/-! ## A computation (R18) -/

theorem State.accruesTo_fire {k : FrameNo} : s.AccruesTo c (s.fire k) := by
  unfold State.fire
  split
  · unfold State.fireTarget
    dsimp only
    split
    · exact .latch (.latch (.of_view rfl))
    · exact .latch (.of_view rfl)
  · exact .refl s

theorem State.accruesTo_testCue {k : FrameNo} : s.AccruesTo c (s.testCue k) := by
  unfold State.testCue
  split
  · exact State.accruesTo_fire
  · split
    · exact .of_view rfl
    · exact .refl s

theorem State.accruesTo_rampTick {fired : Bool} : s.AccruesTo c (s.rampTick fired) := by
  have levels : s.AccruesTo c s.tickLevel := .of_view (by simp [State.countView, Level.tick, Feed.tick])
  refine (levels.trans State.accruesTo_formHold).then_view ?_
  simp [State.rampTick, State.countView]

theorem State.accruesTo_beginComputation (k : FrameNo) : s.AccruesTo c (s.beginComputation k) := by
  have tested : s.AccruesTo c (s.sampleHold.testCue k) := State.accruesTo_testCue.from_view rfl
  unfold State.beginComputation
  dsimp only
  split
  · exact tested.trans State.accruesTo_rampTick
  · exact tested

theorem State.accruesTo_runPickups {k : FrameNo} : s.AccruesTo c (s.runPickups k) :=
  .latchIf (.counted { Events.AccruesTo.refl s.events with concealed := .countUp } ⟨rfl, rfl⟩)

theorem State.accruesTo_countFeedClips {n : Nat} : s.AccruesTo c (s.countFeedClips n) :=
  .latchIf (.counted { Events.AccruesTo.refl s.events with feedClips := .countUp } ⟨rfl, rfl⟩)

theorem State.accruesTo_runCores {w : Option Nat} {inj : Fin 4 → Fin 8 → Int} : s.AccruesTo c (s.runCores w inj) :=
  .latchIf (.counted { Events.AccruesTo.refl s.events with coreClips := .countUp } ⟨rfl, rfl⟩)

theorem State.accruesTo_advanceCheck : s.AccruesTo c s.advanceCheck := .of_view (by simp [State.countView])

theorem State.accruesTo_recordPeaks {outs : Bank 32 Sample} : s.AccruesTo c (s.recordPeaks outs) := .of_view rfl

theorem State.accruesTo_runSamples {k : FrameNo} : s.AccruesTo c (s.runSamples k) := by
  have clipped := (State.accruesTo_runPickups (c := c) (s := s) (k := k)).trans
    (State.accruesTo_countFeedClips (n := (s.runPickups k).feedClips k))
  unfold State.runSamples
  exact ((clipped.trans State.accruesTo_advanceCheck).trans State.accruesTo_runCores).trans State.accruesTo_recordPeaks

theorem State.accruesTo_tickGuard {moved : Fin 32 → Bool} : s.AccruesTo c (s.tickGuard moved) :=
  .latchIf (.latchIf (.of_view rfl))

theorem State.accruesTo_compute (k : FrameNo) : s.AccruesTo c (s.compute k) := by
  have samples : s.AccruesTo c ((s.beginComputation k).runSamples k) :=
    (State.accruesTo_beginComputation k).trans State.accruesTo_runSamples
  unfold State.compute
  dsimp only
  split
  · exact samples.trans State.accruesTo_tickGuard
  · exact samples

/-! ## The pattern unit (R190, R191) -/

theorem State.accruesTo_generate : s.AccruesTo c s.generate := by
  obtain ⟨on, slot⟩ := s.pattern.generate_generator
  refine ⟨.refl _, fun law => law.reads ?_, fun law => law.generate⟩
  simp [State.slotView, State.generate, on, slot]

/-- R191: a word taken by the checker leaves the generator. -/
theorem Pattern.take_generator (p : Pattern) (m : FrameNo) (word : Sample) :
    (p.take m word).genOn = p.genOn ∧ (p.take m word).genSlot = p.genSlot := by
  unfold Pattern.take Pattern.judge
  dsimp only
  split_ifs <;> exact ⟨rfl, rfl⟩

/-- R191: the checker counts an error word and its bits, latches its events, and takes the word. -/
theorem State.accruesTo_checkPattern {f : Frame} : s.AccruesTo c (s.checkPattern f) := by
  have takes {e : Events} (h : s.events.AccruesTo c e) (m : FrameNo) (word : Sample) :
      s.AccruesTo c { s with events := e, pattern := s.pattern.take m word } := by
    obtain ⟨on, slot⟩ := s.pattern.take_generator m word
    refine ⟨h, fun law => law.reads ?_, fun law => law.take m word⟩
    simp [State.slotView, on, slot]
  unfold State.checkPattern
  dsimp only
  refine .latchIf (.latchIf ?_)
  split
  · refine takes ?_ _ _
    exact { Events.AccruesTo.refl s.events with patWords := .countUp, patBits := .countUp }
  · exact takes (.refl _) _ _

/-! ## The frame periods (R7 to R13) -/

theorem State.accruesTo_countBadU : s.AccruesTo c s.countBadU :=
  .latch (.counted { Events.AccruesTo.refl s.events with badU := .countUp } ⟨rfl, rfl⟩)

theorem State.accruesTo_countBadD : s.AccruesTo c s.countBadD :=
  .latch (.counted { Events.AccruesTo.refl s.events with badD := .countUp } ⟨rfl, rfl⟩)

theorem State.accruesTo_paceFrame (n : FrameNo) : s.AccruesTo c (s.paceFrame n) := by
  have counted : s.AccruesTo c (s.countFrame n) := State.accruesTo_takeLoss.from_view rfl
  unfold State.paceFrame
  split
  · exact (counted.trans (State.accruesTo_compute _)).trans State.accruesTo_generate
  · exact counted.trans State.accruesTo_generate

theorem State.accruesTo_readReturn {f : Frame} : s.AccruesTo c (s.readReturn f) := by
  have read {t : State} (h : s.AccruesTo c t) : s.AccruesTo c ((t.readSegment f.number f.segment).checkPattern f) :=
    (h.trans (State.accruesTo_readSegment _ _)).trans State.accruesTo_checkPattern
  unfold State.readReturn
  dsimp only
  split
  · exact read (.of_view rfl)
  · exact read (.refl s)

theorem State.accruesTo_sendD {o : Option (List Byte)} : s.AccruesTo c (s.sendD o) := .of_view rfl

theorem State.accruesTo_sendU {o : Option (List Byte)} : s.AccruesTo c (s.sendU o) := .of_view rfl

theorem State.accruesTo_expect {n : FrameNo} : s.AccruesTo c (s.expect n) := .of_view rfl

theorem State.accruesTo_handleGood {f : Frame} : s.AccruesTo c (s.handleGood f) := by
  have sent : s.AccruesTo c (s.sentFrame f) :=
    ((State.accruesTo_paceFrame f.number).trans (State.accruesTo_afterWrites f)).trans State.accruesTo_sendD
  rw [State.handleGood_eq]
  split
  · exact (sent.trans State.accruesTo_sendU).trans State.accruesTo_readReturn
  · exact sent

theorem State.accruesTo_handleBad {n : FrameNo} {o : Option (List Byte)} : s.AccruesTo c (s.handleBad n o) := by
  have missed : s.AccruesTo c ((s.paceFrame n).missTurn n) :=
    (State.accruesTo_paceFrame n).then_view (by simp [State.countView])
  unfold State.handleBad
  dsimp only
  split
  · exact (missed.trans State.accruesTo_sendD).trans State.accruesTo_sendU
  · exact missed.trans State.accruesTo_sendD

theorem State.accruesTo_settleTurnaround : s.AccruesTo c s.settleTurnaround := .latchIf (.of_view rfl)

theorem State.accruesTo_setPortD {p : PortRx} : s.AccruesTo c (s.setPortD p) := by
  refine .trans ?_ State.accruesTo_settleTurnaround
  exact .latchIf (.of_view rfl)

theorem State.accruesTo_goodOutbound (f : Frame) (o : List Byte) : s.AccruesTo c (s.goodOutbound f o) := by
  unfold State.goodOutbound
  dsimp only
  split
  · refine .trans (.trans ?_ State.accruesTo_handleGood) State.accruesTo_expect
    exact .latchIf (.of_view rfl)
  · split
    · refine .trans (.trans ?_ State.accruesTo_handleGood) State.accruesTo_expect
      exact .of_view rfl
    · exact .of_view rfl

theorem State.accruesTo_badOutbound (o : Option (List Byte)) : s.AccruesTo c (s.badOutbound o) := by
  have counted : s.AccruesTo c s.countBadU := State.accruesTo_countBadU
  unfold State.badOutbound
  dsimp only
  split
  · split
    · refine .trans (.trans ?_ State.accruesTo_handleBad) State.accruesTo_expect
      exact counted.then_view rfl
    · exact (counted.trans State.accruesTo_unlockU).trans State.accruesTo_sendD
  · refine .trans ?_ State.accruesTo_sendD
    exact counted.then_view rfl

theorem State.accruesTo_goodReturn (f : Frame) (o : List Byte) : s.AccruesTo c (s.goodReturn f o) := by
  have judged : s.AccruesTo c (s.setPortD (s.chain.portD.judgeGood s.chain.lockG)) := State.accruesTo_setPortD
  unfold State.goodReturn State.passGoodReturn
  split
  · exact judged.trans State.accruesTo_sendU
  · exact judged
  · split
    · exact judged.trans State.accruesTo_sendU
    · refine .trans (.trans ?_ State.accruesTo_readReturn) State.accruesTo_sendU
      exact judged.then_view rfl

theorem State.accruesTo_badReturn (o : Option (List Byte)) : s.AccruesTo c (s.badReturn o) := by
  have judged : s.AccruesTo c (s.countBadD.setPortD (s.chain.portD.judgeBad s.chain.lockB)) :=
    State.accruesTo_countBadD.trans State.accruesTo_setPortD
  exact judged.then_view (by simp [State.badReturn, State.countView])

theorem State.accruesTo_loseU : s.AccruesTo c s.loseU := by
  unfold State.loseU
  split
  · exact .refl s
  · split
    · exact .refl s
    · exact .of_view rfl
    · exact State.accruesTo_unlockU

theorem State.accruesTo_loseD : s.AccruesTo c s.loseD := by
  unfold State.loseD
  split
  · exact .refl s
  · exact State.accruesTo_setPortD
  · exact State.accruesTo_setPortD

end Sys2Proof.Machine
end

section
/-!
PROOFS. Settles O14 and O15: what every command keeps of the latches, the masks, the counters, the slots and the checker
(R178, R180, R182, R186 to R188, R191, R192).
-/

namespace Sys2Proof.Machine

variable {c : Instr} {s : State}

/-! ## The taking of a command (R162) -/

/-- `P` stands through what command `c` keeps. -/
def Absorbs (c : Instr) (P : State → Prop) : Prop := ∀ s t : State, P s → s.AccruesTo c t → P t

theorem State.absorbs_accruesTo (s : State) : Absorbs c (s.AccruesTo c) := fun _ _ h k => h.trans k

theorem State.absorbs_laws : Absorbs c fun s => s.SlotLaw ∧ s.CountLaw := fun _ _ law k => k.laws law

theorem Verdict.Leaves.imp {P Q : State → Prop} {v : Verdict} (h : v.Leaves P) (k : ∀ t, P t → Q t) : v.Leaves Q := by
  cases v with
  | refused st => trivial
  | taken t r => exact k t h

section
variable {P : State → Prop} (hP : Absorbs c P)
include hP

/-- R177: a refusal latches or replies, and a verdict taken replies. -/
theorem Absorbs.settle {e : Entry} {v : Verdict} (hs : P s) (hv : v.Leaves P) : P (s.settle e v) := by
  cases v with
  | refused st =>
    rw [State.settle_refused]
    split
    · exact hP s _ hs (.latch (.refl s))
    · exact hP s _ hs (.of_view rfl)
  | taken t r =>
    cases r with
    | none => exact hv
    | some r =>
      simp only [State.settle]
      split
      · exact hv
      · exact hP t _ hv (.of_view rfl)

/-- R162: a lane command row keeps what its judgement keeps. -/
theorem Absorbs.laneCommand {kind : Byte} {query : Bool} {judge : Entry → State → Verdict} {t : Taking} (hs : P s)
    (hj : ∀ e u, P u → (judge e u).Leaves P) : P (s.laneCommand kind query judge t) := by
  have carried (u : State) (rest : List Entry) (e : Entry) (hu : P u) :
      P ((u.popQueue rest).carryOut query judge e) := by
    have popped : P (u.popQueue rest) := hP u _ hu (.of_view rfl)
    rcases State.carryOut_cases query judge e (u.popQueue rest) with ⟨-, -, h⟩ | ⟨-, h⟩ <;> rw [h]
    · exact hP _ _ popped (.latch (.refl _))
    · exact hP.settle popped (hj _ _ popped)
  have offered (m : LaneMessage) : P (s.offer m.source kind m.tag m.params m.broadcast) :=
    hP s _ hs (State.accruesTo_offer ..)
  rcases s.laneCommand_cases kind query judge t with h | ⟨m, -, h⟩ | ⟨e, rest, -, -, -, -, h⟩ | ⟨m, -, -, h⟩ <;> rw [h]
  · exact hs
  · exact offered m
  · exact carried _ _ _ hs
  · exact carried _ _ _ (offered m)

end

theorem State.accruesTo_laneCommand {kind : Byte} {query : Bool} {judge : Entry → State → Verdict} {t : Taking}
    (hj : ∀ e u, (judge e u).Leaves (u.AccruesTo c)) : s.AccruesTo c (s.laneCommand kind query judge t) :=
  s.absorbs_accruesTo.laneCommand (.refl s) fun e u hu => (hj e u).imp fun _ => hu.trans

theorem State.accruesTo_judgedCommand {kind : Byte} {query inQuiet : Bool} {n : Nat}
    {judge : List Byte → State → Verdict} {t : Taking} (hj : ∀ p u, (judge p u).Leaves (u.AccruesTo c)) :
    s.AccruesTo c (s.laneCommand kind query (judged inQuiet n judge) t) :=
  State.accruesTo_laneCommand fun e u => judged_leaves (hj e.params u)

/-! ## The judgements that move slots, the checker and guards -/

/-- R178: a FEED_SET is applied when its slot is not taken. -/
theorem judgeFeedSet_accruesTo (p : List Byte) (s : State) : (judgeFeedSet p s).Leaves (s.AccruesTo c) := by
  unfold judgeFeedSet
  split
  · split
    · trivial
    · rename_i free
      exact ⟨.refl _, fun law => law.setFeed (Bool.eq_false_iff.2 free) _, id⟩
  · trivial

/-- R178, R192: a PATTERN_SET is applied when no feed holds the slot of a generator turned on. -/
theorem judgePatternSet_accruesTo (p : List Byte) (s : State) : (judgePatternSet p s).Leaves (s.AccruesTo c) := by
  unfold judgePatternSet
  split
  · split
    · trivial
    · rename_i free
      refine ⟨.refl _, fun law => law.setPattern (Bool.eq_false_iff.2 free), fun law => law.configure ?_⟩
      exact clamp_mem (by decide) _
  · trivial

theorem State.accruesTo_setGuards (m : BitVec 32) (q : GuardParams) : s.AccruesTo c (s.setGuards m q) :=
  .latchIf (.of_view rfl)

theorem State.accruesTo_takeCue (i : Fin 16) (x : FrameNo) (b : Bool) : s.AccruesTo c (s.takeCue i x b) := by
  unfold State.takeCue
  split
  · refine .latch ?_
    split <;> exact .of_view rfl
  · exact .of_view rfl

/-! ## Every command -/

/-- The resets: POWER_ON_RESET, NODE_RESET and WAKE. -/
def ResetsPart (c : Instr) : Prop :=
  (∃ lead a, c = .powerOnReset lead a) ∨ (∃ k, c = .nodeReset k) ∨ ∃ k, c = .wake k

/-- The rows of the pins, the lines and the frames, QUIET and CHAIN_SET. -/
theorem exec_accruesTo_frameRows {t : State} (moves : movesView c = true) (kept : ¬ResetsPart c)
    (he : exec c s = .next t) : s.AccruesTo c t := by
  have pulled (b : Bool) : s.AccruesTo c (s.setHoldPulled b) := .of_view rfl
  have foundU (b : Bool) : s.AccruesTo c (s.setHoldPulled b).findSyncU := .of_view rfl
  have foundD : s.AccruesTo c s.findSyncD := .of_view rfl
  cases c with
  | powerOnReset lead a => exact absurd (.inl ⟨lead, a, rfl⟩) kept
  | nodeReset k => exact absurd (.inr (.inl ⟨k, rfl⟩)) kept
  | wake k => exact absurd (.inr (.inr ⟨k, rfl⟩)) kept
  | powerOnResetHeld =>
    cases he
    exact .of_view rfl
  | lineActivityAppears p =>
    cases he
    refine State.unlessHeld_keeps (.refl s) ?_
    cases p with
    | U =>
      dsimp only
      split
      · exact .refl s
      · exact .of_view rfl
    | D => exact .of_view rfl
  | lineActivityLost p =>
    cases he
    refine State.unlessHeld_keeps (.refl s) ?_
    cases p with
    | U => exact State.accruesTo_loseU
    | D => exact State.accruesTo_loseD
  | frameOriginate b =>
    cases he
    refine State.unlessHeld_keeps (pulled b) ?_
    split
    · exact ((pulled b).trans State.accruesTo_handleGood).then_view rfl
    · exact pulled b
  | outboundFrameReceive o b =>
    cases he
    refine State.unlessHeld_keeps (pulled b) ?_
    split
    · exact pulled b
    · split
      · exact (foundU b).trans (State.accruesTo_goodOutbound _ _)
      · exact (foundU b).trans (State.accruesTo_badOutbound _)
  | syncMissingPeriod p b =>
    cases he
    refine State.unlessHeld_keeps (pulled b) ?_
    cases p with
    | U =>
      dsimp only
      split
      · exact pulled b
      · exact (pulled b).trans (State.accruesTo_badOutbound _)
    | D =>
      dsimp only
      split
      · exact (pulled b).trans (State.accruesTo_badReturn _)
      · exact pulled b
  | returnFrameReceive o =>
    cases he
    refine State.unlessHeld_keeps (.refl s) ?_
    split
    · exact .refl s
    · split
      · exact foundD.trans (State.accruesTo_goodReturn _ _)
      · exact foundD.trans (State.accruesTo_badReturn _)
  | discardMarkExpire =>
    cases he
    refine State.unlessHeld_keeps (.refl s) ?_
    split
    · exact .of_view rfl
    · exact .refl s
  | quiet t =>
    cases he
    exact State.accruesTo_judgedCommand fun _ _ => State.accruesTo_enterQuiet
  | chainSet t =>
    cases he
    exact State.accruesTo_judgedCommand fun _ _ => .of_view rfl
  | _ => cases moves

/-- The events inside the blocks and the other lane commands. -/
theorem exec_accruesTo_otherRows {t : State} (moves : movesView c = false) (he : exec c s = .next t) :
    s.AccruesTo c t := by
  cases c with
  | powerOnReset _ _ | powerOnResetHeld | lineActivityAppears _ | lineActivityLost _ | frameOriginate _
  | outboundFrameReceive _ _ | syncMissingPeriod _ _ | returnFrameReceive _ | discardMarkExpire
  | nodeReset _ | quiet _ | wake _ | chainSet _ => cases moves
  | coreShaped _ | gateHangExpire _ | quietHoldExpire _ | recoveryStep _ =>
    cases he
    exact State.whileComputing_keeps (.refl s) (.of_view rfl)
  | checkPass =>
    cases he
    refine State.whileComputing_keeps (.refl s) ?_
    split
    · exact .refl s
    · split
      · exact .of_view (by simp [State.countView])
      · exact .refl s
  | checkFail =>
    cases he
    refine State.whileComputing_keeps (.refl s) ?_
    split
    · exact .refl s
    · split
      · exact .of_view (by simp [State.countView])
      · exact .refl s
      · exact .refl s
  | cueFire k =>
    cases he
    refine State.whileComputing_keeps (.refl s) ?_
    split
    · exact State.accruesTo_fire
    · exact .refl s
  | crossfadeEnd =>
    cases he
    refine State.whileComputing_keeps (.refl s) ?_
    split
    · exact .of_view rfl
    · exact .refl s
  | badKindCommand k t =>
    cases he
    split
    · exact State.accruesTo_laneCommand fun _ _ => trivial
    · exact .refl s
  | identify t | eventsRead t | chainRead t | groupRead t | cueRead t =>
    cases he
    exact State.accruesTo_judgedCommand fun _ u => .refl u
  | pickupRead t =>
    cases he
    exact State.accruesTo_judgedCommand fun _ u => judgePickupRead_leaves (.refl u)
  | feedRead t =>
    cases he
    exact State.accruesTo_judgedCommand fun _ u => judgeFeedRead_leaves (.refl u)
  | coreRead t =>
    cases he
    exact State.accruesTo_judgedCommand fun _ u => judgeCoreRead_leaves (.refl u)
  | sceneRead t =>
    cases he
    exact State.accruesTo_judgedCommand fun _ u => judgeSceneRead_leaves (.refl u)
  | tapRead t =>
    cases he
    exact State.accruesTo_judgedCommand fun _ u => judgeTapRead_leaves (.refl u)
  | guardRead t =>
    cases he
    exact State.accruesTo_judgedCommand fun _ u => judgeGuardRead_leaves (.refl u)
  | patternRead t =>
    cases he
    exact State.accruesTo_judgedCommand fun _ u => judgePatternRead_leaves (.refl u)
      (.counted (.clearPattern t u.events) ⟨rfl, rfl⟩)
  | eventsClear t =>
    cases he
    exact State.accruesTo_judgedCommand fun _ _ => .counted (.clear t _ _) ⟨rfl, rfl⟩
  | eventsMask t =>
    cases he
    exact State.accruesTo_judgedCommand fun _ _ => .counted (.remask t _ _) ⟨rfl, rfl⟩
  | patternSet t =>
    cases he
    exact State.accruesTo_judgedCommand judgePatternSet_accruesTo
  | feedSet t =>
    cases he
    exact State.accruesTo_judgedCommand judgeFeedSet_accruesTo
  | pickupSet t =>
    cases he
    exact State.accruesTo_judgedCommand fun _ _ => judgePickupSet_leaves fun _ _ _ _ _ _ _ _ _ => .of_view rfl
  | groupSet t | hold t | resume t =>
    cases he
    exact State.accruesTo_judgedCommand fun _ _ => .of_view rfl
  | guardSet t =>
    cases he
    exact State.accruesTo_judgedCommand fun _ _ => State.accruesTo_setGuards _ _
  | coreShape t =>
    cases he
    exact State.accruesTo_judgedCommand fun _ _ => judgeCoreShape_leaves
      fun _ _ => .of_view (by simp [State.countView])
  | sceneHead t | sceneClear t =>
    cases he
    exact State.accruesTo_judgedCommand fun _ _ => onUnlocked_leaves fun _ => .of_view (by simp [State.countView])
  | tapWrite t =>
    cases he
    refine State.accruesTo_laneCommand fun _ _ => ?_
    split
    · trivial
    · exact judgeTapWrite_leaves fun _ _ _ => .of_view (by simp [State.countView])
  | sceneCheck t =>
    cases he
    exact State.accruesTo_laneCommand fun _ _ => judged_leaves
      (judgeSceneCheck_leaves (fun _ => .of_view rfl) fun _ _ => .of_view rfl)
  | cue t =>
    cases he
    exact State.accruesTo_judgedCommand fun _ u => judgeCue_leaves (.refl u) State.accruesTo_takeCue
  | cueCancel t =>
    cases he
    exact State.accruesTo_judgedCommand fun _ _ => .of_view (by simp [State.countView])

/-- What every command but the resets keeps. -/
theorem exec_accruesTo {t : State} (kept : ¬ResetsPart c) (he : exec c s = .next t) : s.AccruesTo c t := by
  cases moves : movesView c with
  | true => exact exec_accruesTo_frameRows moves kept he
  | false => exact exec_accruesTo_otherRows moves he

/-! ## The resets (R153 to R155) -/

/-- R155: a node reset leaves the slots and the counters as power-on does. -/
theorem State.nodeReset_laws (s : State) : s.nodeReset.SlotLaw ∧ s.nodeReset.CountLaw :=
  ⟨State.powerOn_slotLaw false 0, State.powerOn_countLaw false 0⟩

theorem exec_resets_laws {t : State} (resets : ResetsPart c) (law : s.SlotLaw ∧ s.CountLaw)
    (he : exec c s = .next t) : t.SlotLaw ∧ t.CountLaw := by
  rcases resets with ⟨lead, a, rfl⟩ | ⟨k, rfl⟩ | ⟨k, rfl⟩
  · cases he
    exact ⟨State.powerOn_slotLaw lead a, State.powerOn_countLaw lead a⟩
  · cases he
    exact (State.absorbs_laws (c := .nodeReset k)).laneCommand law fun _ u _ => u.nodeReset_laws
  · cases he
    refine (State.absorbs_laws (c := .wake k)).laneCommand law fun _ u hu => ?_
    by_cases quiet : u.hold.condition = .quiet
    · exact (State.wake_quiet quiet).symm ▸ u.nodeReset_laws
    · exact (State.wake_awake quiet).symm ▸ hu

/-! ## The statements -/

/-- Settles O14: the resets set the laws up, and what every other command keeps carries them. -/
theorem stepKeepsSlotAndCountLaws : Obligations.StepKeepsSlotAndCountLaws := by
  intro s t slots count stepped
  refine step_keeps_of_exec_keeps (P := fun s => s.SlotLaw ∧ s.CountLaw) (fun _ _ h => h) (fun c u v law he => ?_)
    ⟨slots, count⟩ stepped
  by_cases resets : ResetsPart c
  · exact exec_resets_laws resets law he
  · exact (exec_accruesTo resets he).laws law

/-- Settles O15: what every command but the resets keeps, read from counters within their widths. -/
theorem latchesAndCountersPersist : Obligations.LatchesAndCountersPersist := by
  intro c s t law he powerOn nodeReset wake
  have kept : ¬ResetsPart c := by
    rintro (⟨lead, a, h⟩ | ⟨k, h⟩ | ⟨k, h⟩)
    · exact powerOn lead a h
    · exact nodeReset k h
    · exact wake k h
  have events := (exec_accruesTo kept he).events
  obtain ⟨badU, badD, broken, badMessages, dropped, concealed, feedClips, coreClips, patWords, patBits⟩ := law
  exact ⟨events.latch, events.mask, (events.badU badU).2 trivial, (events.badD badD).2 trivial,
    (events.broken broken).2 trivial, (events.badMessages badMessages).2 trivial, (events.dropped dropped).2 trivial,
    (events.concealed concealed).2 trivial, (events.feedClips feedClips).2 trivial,
    (events.coreClips coreClips).2 trivial,
    fun other => ⟨(events.patWords patWords).2 other, (events.patBits patBits).2 other⟩⟩

end Sys2Proof.Machine
end

section
/-!
PROOFS. Settles O30: the slot pattern stream, the generator and the checker (R190 to R192).
-/

namespace Sys2Proof.Machine

/-! ## The stream (R190) -/

/-- R190: a word shifted to take a bit behind it has that bit last. -/
theorem appendBit_getLsbD_zero {n : Nat} (w : BitVec n) (b : BitVec 1) (hn : 0 < n) :
    ((w <<< 1) ||| b.setWidth n).getLsbD 0 = b.getLsbD 0 := by
  simp [hn]

/-- R190: a word shifted to take a bit behind it has its own bits one place up. -/
theorem appendBit_getLsbD_succ {n j : Nat} (w : BitVec n) (b : BitVec 1) (hj : j + 1 < n) :
    ((w <<< 1) ||| b.setWidth n).getLsbD (j + 1) = w.getLsbD j := by
  simp only [BitVec.getLsbD_or, BitVec.getLsbD_shiftLeft, BitVec.getLsbD_setWidth,
    BitVec.getLsbD_of_ge b (j + 1) (by omega)]
  simp [hj]

@[simp] theorem streamBit_getLsbD (h : BitVec 23) :
    (streamBit h).getLsbD 0 = (h.getLsbD 17 ^^ h.getLsbD 22) := by
  simp [streamBit]

/-- R190: the history once the stream's next bit is appended to it. -/
def historyAfterBit (h : BitVec 23) : BitVec 23 := (h <<< 1) ||| (streamBit h).setWidth 23

/-- R190: bit `i` of the sequence that history `h` and the stream after it make: the oldest bit of the history once `i`
more bits are formed. -/
def sequenceBit (h : BitVec 23) (i : Nat) : Bool := (historyAfterBit^[i] h).getLsbD 22

theorem historyAfterBit_latest (h : BitVec 23) :
    (historyAfterBit h).getLsbD 0 = (h.getLsbD 17 ^^ h.getLsbD 22) := by
  rw [historyAfterBit, appendBit_getLsbD_zero h _ (by decide), streamBit_getLsbD]

theorem historyAfterBit_older (h : BitVec 23) {j : Nat} (hj : j < 22) :
    (historyAfterBit h).getLsbD (j + 1) = h.getLsbD j :=
  appendBit_getLsbD_succ h _ (by omega)

/-- R190: a bit of the history moves one place towards its oldest with each bit formed. -/
theorem iterate_historyAfterBit_getLsbD (h : BitVec 23) {n j : Nat} (hj : j + n < 23) :
    (historyAfterBit^[n] h).getLsbD (j + n) = h.getLsbD j := by
  induction n with
  | zero => rfl
  | succ n ih =>
    rw [Function.iterate_succ_apply', ← Nat.add_assoc, historyAfterBit_older _ (by omega), ih (by omega)]

theorem sequenceBit_add (h : BitVec 23) (n i : Nat) :
    sequenceBit h (i + n) = sequenceBit (historyAfterBit^[n] h) i := by
  rw [sequenceBit, sequenceBit, Function.iterate_add_apply]

theorem sequenceBit_history (h : BitVec 23) {i : Nat} (hi : i < 23) : sequenceBit h i = h.getLsbD (22 - i) := by
  rw [← iterate_historyAfterBit_getLsbD h (n := i) (by omega), Nat.sub_add_cancel (by omega), sequenceBit]

/-- R190: the law of the stream. -/
theorem sequenceBit_law (h : BitVec 23) (i : Nat) :
    sequenceBit h (i + 23) = (sequenceBit h (i + 5) ^^ sequenceBit h i) := by
  rw [Nat.add_comm i, Nat.add_comm i, sequenceBit_add, sequenceBit_add,
    show sequenceBit h i = sequenceBit (historyAfterBit^[i] h) 0 from rfl]
  generalize historyAfterBit^[i] h = latest
  rw [sequenceBit_history latest (i := 5) (by decide), sequenceBit_history latest (i := 0) (by decide), sequenceBit,
    Function.iterate_succ_apply]
  exact (iterate_historyAfterBit_getLsbD _ (n := 22) (j := 0) (by decide)).trans (historyAfterBit_latest latest)

/-- R190: the word formed holds the bits that follow the history, the first the most significant. -/
theorem streamBits_getLsbD (n : Nat) (h : BitVec 23) (w : BitVec 24) {j : Nat} (hj : j < 24) :
    (streamBits n h w).getLsbD j = if j < n then sequenceBit h (n - 1 - j + 23) else w.getLsbD (j - n) := by
  induction n generalizing h w with
  | zero => rfl
  | succ n ih =>
    rw [streamBits, ih]
    rcases Nat.lt_trichotomy j n with hlt | rfl | hgt
    · rw [if_pos hlt, if_pos (by omega), show n + 1 - 1 - j + 23 = n - 1 - j + 23 + 1 by omega,
        sequenceBit_add h 1]
      rfl
    · rw [if_neg (by omega), if_pos (by omega), Nat.add_sub_cancel, Nat.sub_self, sequenceBit_law h 0,
        sequenceBit_history h (by decide), sequenceBit_history h (by decide), appendBit_getLsbD_zero w _ (by decide),
        streamBit_getLsbD]
    · rw [if_neg (by omega), if_neg (by omega)]
      obtain ⟨k, rfl⟩ := Nat.exists_eq_add_of_lt hgt
      rw [show n + k + 1 - n = k + 1 by omega, show n + k + 1 - (n + 1) = k by omega,
        appendBit_getLsbD_succ w _ (by omega)]

theorem streamWord_getLsbD (h : BitVec 23) {j : Nat} (hj : j < 24) :
    (streamWord h).getLsbD j = sequenceBit h (46 - j) := by
  rw [streamWord, streamBits_getLsbD 24 h 0 hj, if_pos hj]
  congr 1
  omega

/-- R190: every bit of a history's next word by the law, from the bits before it. -/
theorem streamWord_law (h : BitVec 23) :
    let bit : Nat → Bool := fun i => if i < 23 then h.getLsbD (22 - i) else (streamWord h).getLsbD (46 - i)
    ∀ i, 23 ≤ i → i < 47 → bit i = (bit (i - 18) ^^ bit (i - 23)) := by
  intro bit
  have bit_eq : ∀ i < 47, bit i = sequenceBit h i := fun i hi => by
    by_cases old : i < 23
    · simp only [bit, if_pos old, sequenceBit_history h old]
    · simp only [bit, if_neg old, streamWord_getLsbD h (show 46 - i < 24 by omega), show 46 - (46 - i) = i by omega]
  intro i hi hw
  obtain ⟨k, rfl⟩ := Nat.exists_eq_add_of_le' hi
  rw [bit_eq _ hw, bit_eq _ (by omega), bit_eq _ (by omega), sequenceBit_law]
  simp

theorem seedOf_getLsbD (word : Sample) {i : Nat} (hi : i < 23) : (seedOf word).getLsbD i = word.getLsbD i := by
  simp [seedOf, hi]

/-! ## The generator (R190) -/

theorem Pattern.generate_off {p : Pattern} (off : p.genOn = false) : p.generate = p := by
  simp [Pattern.generate, off]

theorem Pattern.generate_on {p : Pattern} (on : p.genOn = true) :
    p.generate = { p with history := seedOf (streamWord p.history) } := by
  simp [Pattern.generate, on]

/-! ## What the checker judges a word by (R191) -/

theorem skipWords_eq_iterate (n : Nat) (h : BitVec 23) :
    skipWords n h = (fun h => seedOf (streamWord h))^[n] h := by
  induction n generalizing h with
  | zero => rfl
  | succ n ih => exact ih _

theorem bitsDiffering_eq (a b : Sample) :
    bitsDiffering a b = ((List.range 24).filter fun i => a.getLsbD i != b.getLsbD i).length := by
  simp [bitsDiffering]

theorem Pattern.reseeds_eq_false_iff (m : FrameNo) (p : Pattern) : p.reseeds m = false ↔
    p.seedNext = false ∧ 1 ≤ (m - p.lastFrame).toNat ∧ (m - p.lastFrame).toNat ≤ 16 := by
  simp [Pattern.reseeds, and_assoc, Nat.one_le_iff_ne_zero]

/-! ## The checker takes a word (R191) -/

section
variable {p : Pattern} {m : FrameNo} {word : Sample}

/-- R191: an error is a judged word, in IN_SYNC, that differs. -/
theorem Pattern.errs_iff : p.errs m word = true ↔
    p.chkOn = true ∧ p.reseeds m = false ∧ p.inSync = true ∧ word ≠ p.predicted m := by
  simp [Pattern.errs, and_assoc]

theorem Pattern.take_off (off : p.chkOn = false) : p.take m word = p := by
  simp [Pattern.take, off]

theorem Pattern.take_reseeds (on : p.chkOn = true) (seeds : p.reseeds m = true) :
    p.take m word = { p.seek word with lastFrame := m, seedNext := false } := by
  simp [Pattern.take, on, seeds]

theorem Pattern.take_judges (on : p.chkOn = true) (judges : p.reseeds m = false) :
    p.take m word = { p.judge m word with lastFrame := m, seedNext := false } := by
  simp [Pattern.take, on, judges]

theorem Pattern.judge_seeking_equal (seeking : p.inSync = false) (equal : word = p.predicted m) :
    p.judge m word = if p.goodRun + 1 < 8 then { p with predictor := seedOf (p.predicted m), goodRun := p.goodRun + 1 }
      else { p with predictor := seedOf (p.predicted m), inSync := true, goodRun := 0, mismatchRun := 0 } := by
  simp only [Pattern.judge, seeking, if_pos equal, ge_iff_le, ← Nat.not_lt, ite_not, Bool.false_eq_true, if_false]

theorem Pattern.judge_seeking_differs (seeking : p.inSync = false) (differs : word ≠ p.predicted m) :
    p.judge m word = { p with goodRun := 0, predictor := seedOf word } := by
  simp [Pattern.judge, seeking, differs]

theorem Pattern.judge_inSync_equal (sync : p.inSync = true) (equal : word = p.predicted m) :
    p.judge m word = { p with predictor := seedOf (p.predicted m), mismatchRun := 0 } := by
  simp [Pattern.judge, sync, equal]

theorem Pattern.judge_inSync_differs (sync : p.inSync = true) (differs : word ≠ p.predicted m) :
    p.judge m word = if p.mismatchRun + 1 < 8
      then { p with predictor := seedOf (p.predicted m), mismatchRun := p.mismatchRun + 1 } else p.seek word := by
  simp only [Pattern.judge, sync, if_neg differs, ge_iff_le, ← Nat.not_lt, ite_not, if_true]

end

/-! ## What a word moves in the part (R191) -/

section
variable (s : State) (f : Frame)

/-- R191: a word that is no error moves the checker alone. -/
theorem State.checkPattern_noError (ok : s.pattern.errs f.number (f.slots.get s.pattern.chkSlot) = false) :
    s.checkPattern f = { s with pattern := s.pattern.take f.number (f.slots.get s.pattern.chkSlot) } := by
  simp [State.checkPattern, Pattern.losesSync, ok, State.latchIf]

/-- R188, R191: an error is counted with the bits it differs in; it latches the alarm when the count is raised to the
threshold, and the loss of sync. -/
theorem State.checkPattern_error (err : s.pattern.errs f.number (f.slots.get s.pattern.chkSlot) = true) :
    let word := f.slots.get s.pattern.chkSlot
    let words := countUp top32 s.events.patWords 1
    s.checkPattern f = { s with
      pattern := s.pattern.take f.number word
      events := { s.events with
        latch := (s.events.latch |||
          if s.events.patWords != words && words == s.pattern.threshold then Event.word .patternAlarm else 0) |||
          if decide (8 ≤ s.pattern.mismatchRun + 1) then Event.word .patternSyncLost else 0
        patWords := words
        patBits := countUp top40 s.events.patBits (bitsDiffering word (s.pattern.predicted f.number)) } } := by
  simp only [State.checkPattern, Pattern.losesSync, err, State.latchIf_eq, if_true, Bool.true_and, ge_iff_le]

end

/-- R188, R191: the count is raised to `n`: it stood one below, short of its greatest value. -/
theorem countUp_reaches_iff {top c n : Nat} (h : c ≤ top) :
    (c != countUp top c 1 && countUp top c 1 == n) = true ↔ c < top ∧ c + 1 = n := by
  simp only [countUp, Bool.and_eq_true, bne_iff_ne, beq_iff_eq]
  omega

/-! ## The statement -/

/-- R190: the two words the rule gives. -/
theorem streamWord_firstTwo :
    streamWord (BitVec.allOnes 23) = 0x00003E ∧ streamWord (seedOf 0x00003E) = 0x000FFC := by decide

/-- Settles O30: the stream by its law, the generator by its switch, and the checker's word by the branch that takes
it. -/
theorem patternStreamAndChecker : Obligations.PatternStreamAndChecker := by
  refine ⟨fun h => ⟨streamWord_law h, fun i hi => seedOf_getLsbD _ hi⟩, streamWord_firstTwo,
    fun p => ⟨Pattern.generate_off, Pattern.generate_on⟩, ?_⟩
  intro s f p m word g judges predicted seeded passed t
  have judges_iff : p.reseeds m = false ↔ judges := p.reseeds_eq_false_iff m
  have predicted_eq : p.predicted m = predicted := congrArg streamWord (skipWords_eq_iterate _ _)
  have noError (ok : ¬(p.chkOn = true ∧ p.reseeds m = false ∧ p.inSync = true ∧ word ≠ p.predicted m)) :
      t = { s with pattern := p.take m word } :=
    s.checkPattern_noError f (Bool.eq_false_iff.2 (mt Pattern.errs_iff.1 ok))
  rw [← predicted_eq]
  refine ⟨fun off => ?_, fun on seeds => ?_, fun on judged seeking equal => ?_, fun on judged seeking differs => ?_,
    fun on judged sync equal => ?_, fun on judged sync differs => ?_⟩
  · rw [noError (by simp [off]), Pattern.take_off off]
  · have seeds : p.reseeds m = true := Bool.not_eq_false _ ▸ mt judges_iff.1 seeds
    rw [noError (by simp [seeds]), Pattern.take_reseeds on seeds]
    rfl
  · rw [noError (by simp [seeking]), Pattern.take_judges on (judges_iff.2 judged),
      Pattern.judge_seeking_equal seeking equal]
    simp only [passed, ← predicted_eq]
    split <;> rfl
  · rw [noError (by simp [seeking]), Pattern.take_judges on (judges_iff.2 judged),
      Pattern.judge_seeking_differs seeking differs]
  · rw [noError (by simp [equal]), Pattern.take_judges on (judges_iff.2 judged),
      Pattern.judge_inSync_equal sync equal]
    simp only [passed, ← predicted_eq]
  · have counted := s.checkPattern_error f (Pattern.errs_iff.2 ⟨on, judges_iff.2 judged, sync, differs⟩)
    have moved : t.pattern = p.take m word := s.checkPattern_pattern f
    refine ⟨?_, ?_, ?_, fun law => ?_, ?_⟩
    · rw [moved, Pattern.take_judges on (judges_iff.2 judged), Pattern.judge_inSync_differs sync differs]
      simp only [passed, ← predicted_eq]
      split <;> rfl
    · simp only [t, counted, countUp, bitsDiffering_eq]
      rfl
    · simp only [t, counted, Events.latched_eq, BitVec.getLsbD_or, Event.wordIf_bit]
      simp [p]
    · obtain ⟨⟨_, _, _, _, _, _, _, _, inRange, _⟩, _⟩ := law
      rw [← countUp_reaches_iff inRange]
      simp only [t, counted, Events.latched_eq, BitVec.getLsbD_or, Event.wordIf_bit]
      simp [p]
    · simp only [t, counted]

end Sys2Proof.Machine
end

section
/-!
PROOFS. Settles O1: the two equations of a step, one for each form of the queue (log 2).
-/

namespace Sys2Proof.Machine

/-- Log 2: a command at the front of the queue runs on the queue's rest. -/
theorem step_of_pending_cons {s : State} {c : Instr} {rest : List Instr} (front : s.pending = c :: rest) :
    step s = exec c { s with pending := rest } := by
  unfold step
  rw [front]

/-- Log 2: on an empty queue the block idles. -/
theorem step_of_pending_nil {s : State} (empty : s.pending = []) : step s = .next s := by
  unfold step
  rw [empty]

/-- Settles O1, by the form of the queue. -/
theorem stepTakesFrontOrIdles : Obligations.StepTakesFrontOrIdles :=
  ⟨fun _ _ _ front => step_of_pending_cons front, fun _ empty => step_of_pending_nil empty⟩

end Sys2Proof.Machine
end
